-- ==== Sys2Proof/Word.lean ====
section
/-! DEFINITION. The word types of the block (00_scope.md rules R11 to R13): a byte, a 32-bit host word, a 16-bit transfer
parameter, and a frame as a finite sequence of bytes indexed from 0. -/

namespace Sys2Proof

/-- A byte, 0x00..0xFF (R11). -/
abbrev Byte := BitVec 8

/-- A host word: what CMD takes and STATUS gives (R37, R38). Bit 0 is the least significant (R12). -/
abbrev Word := BitVec 32

/-- A transfer parameter, passed to the Transport as a 16-bit integer (R33, R59). -/
abbrev Param := BitVec 16

/-- A frame: a finite sequence of bytes, byte 0 first (R13, R58). -/
abbrev Frame := List Byte

end Sys2Proof
end

