-- ==== Sys2Proof/Syntax.lean ====
section
/-! DEFINITION. The command set (30_encoding.md rules R73 to R84): one constructor for each row of spec/opcode_table.json.
A constructor keeps every bit of its word outside the fixed ones, the reserved bits among them, so that no word is
lost in decoding (R80: decoding is total on every 32-bit word). -/

namespace Sys2Proof

/-- The commands, one constructor for each row of the opcode table. -/
inductive Instr where
  /-- MIC_SET (R76): reserved bits 27:1, EN = w[0]. -/
  | micSet (resv : BitVec 27) (en : BitVec 1)
  /-- EQ_SET (R77): reserved bits 27:11, BAND = w[10:8], VALUE = w[7:0]. -/
  | eqSet (resv : BitVec 17) (band : BitVec 3) (value : BitVec 8)
  /-- COLOR_SET (R78): reserved bit 27, RED = w[26:18], GREEN = w[17:9], BLUE = w[8:0]. -/
  | colorSet (resv : BitVec 1) (red green blue : BitVec 9)
  /-- RESERVED, OP = 0x0 (R81): the other 28 bits. -/
  | reserved0 (rest : BitVec 28)
  /-- RESERVED, OP = 0x4..0x7 (R81): w[29:28], then the other 28 bits. -/
  | reserved4to7 (sub : BitVec 2) (rest : BitVec 28)
  /-- RESERVED, OP = 0x8..0xF (R81): w[30:28], then the other 28 bits. -/
  | reserved8toF (sub : BitVec 3) (rest : BitVec 28)
  deriving DecidableEq, Repr

/-- One row of the opcode table: a word w is of the row when w AND mask = pattern; reserved is the row's reserved-zero
mask, and frames the length of its sequence. -/
structure OpcodeRow where
  mnemonic : String
  pattern : Word
  mask : Word
  reserved : Word
  frames : Nat
  deriving DecidableEq, Repr

end Sys2Proof
end

