-- ==== Sys2Proof/Decode.lean ====
section
/-! DEFINITION. The decoder of 30_encoding.md rule R80, total on every 32-bit word, and the encoder of rules R76 to R78
and R81. The command word is one 32-bit host write (R73, R84), whose bit i is bit i of CMD (R60): there are no
instruction bytes in memory, no second word, and no word that the decoder turns away. -/

namespace Sys2Proof

/-- OP = w[31:28] (R73, R75). -/
def opField (w : Word) : BitVec 4 := w.extractLsb' 28 4

/-- The decoder (R80). A word of a reserved OP goes to the row of the table that its OP lies in (R75, R81). -/
def decode (w : Word) : Instr :=
  if opField w = 0x1 then
    .micSet (w.extractLsb' 1 27) (w.extractLsb' 0 1)
  else if opField w = 0x2 then
    .eqSet (w.extractLsb' 11 17) (w.extractLsb' 8 3) (w.extractLsb' 0 8)
  else if opField w = 0x3 then
    .colorSet (w.extractLsb' 27 1) (w.extractLsb' 18 9) (w.extractLsb' 9 9) (w.extractLsb' 0 9)
  else if opField w = 0x0 then
    .reserved0 (w.extractLsb' 0 28)
  else if opField w < 0x8 then
    .reserved4to7 ((opField w).extractLsb' 0 2) (w.extractLsb' 0 28)
  else
    .reserved8toF ((opField w).extractLsb' 0 3) (w.extractLsb' 0 28)

/-- The encoder, from the bit layouts of R76, R77, R78 and R75. -/
def encode : Instr → Word
  | .micSet resv en => 0x1#4 ++ resv ++ en
  | .eqSet resv band value => 0x2#4 ++ resv ++ band ++ value
  | .colorSet resv red green blue => 0x3#4 ++ resv ++ red ++ green ++ blue
  | .reserved0 rest => 0x0#4 ++ rest
  | .reserved4to7 sub rest => 0x1#2 ++ sub ++ rest
  | .reserved8toF sub rest => 0x1#1 ++ sub ++ rest

/-- The OP nibble of a command, w[31:28] of its word: what ERR_OP and OPR record (R44, R147). -/
def Instr.op : Instr → BitVec 4
  | .micSet _ _ => 0x1
  | .eqSet _ _ _ => 0x2
  | .colorSet _ _ _ _ => 0x3
  | .reserved0 _ => 0x0
  | .reserved4to7 sub _ => 0x1#2 ++ sub
  | .reserved8toF sub _ => 0x1#1 ++ sub

/-- spec/opcode_table.json as data (R75, R82, R148), in its order. -/
def opcodeRows : List OpcodeRow :=
  [ ⟨"MIC_SET", 0x10000000, 0xF0000000, 0x0FFFFFFE, 1⟩,
    ⟨"EQ_SET", 0x20000000, 0xF0000000, 0x0FFFF800, 19⟩,
    ⟨"COLOR_SET", 0x30000000, 0xF0000000, 0x08000000, 13⟩,
    ⟨"RESERVED", 0x00000000, 0xF0000000, 0x00000000, 0⟩,
    ⟨"RESERVED", 0x40000000, 0xC0000000, 0x00000000, 0⟩,
    ⟨"RESERVED", 0x80000000, 0x80000000, 0x00000000, 0⟩ ]

/-- Whether word w is of the row. -/
def OpcodeRow.fits (r : OpcodeRow) (w : Word) : Bool := w &&& r.mask == r.pattern

/-- The place of a command's row in the table. -/
def Instr.row : Instr → Nat
  | .micSet _ _ => 0
  | .eqSet _ _ _ => 1
  | .colorSet _ _ _ _ => 2
  | .reserved0 _ => 3
  | .reserved4to7 _ _ => 4
  | .reserved8toF _ _ => 5

/-- The command read from nbits bits w, bit 0 the least significant: the one 32-bit word, bits above nbits 0 (R73).
None where more bits are given than a command has. -/
def decodeTableWord (nbits w : Nat) : Option Instr :=
  if nbits ≤ 32 then some (decode (BitVec.ofNat 32 (w % 2 ^ nbits))) else none

end Sys2Proof
end

