-- ==== Sys2Proof/Config.lean ====
section
/-! DEFINITION. The OPEN parameters of 00_scope.md rule R9: constants fixed before the first step (R55, R188) of which
nothing may be assumed beyond rule R10. Each is an opaque constant without a body, so a statement about the model
holds for every value of it (log entry 4). The literals that the source fixes are in Machine/Literals.lean. -/

namespace Sys2Proof

/-- Free permutation of the byte values. OP_REG[b] is the image of b under it, which says of the five opcodes exactly
that they are pairwise distinct (R10): any five distinct bytes are such images. -/
opaque Config.opRegCode : Equiv.Perm Byte

/-- OP_REG[b], the register opcode of band b (R9, R10). -/
def Config.opReg (b : Fin 5) : Byte := Config.opRegCode (BitVec.ofNat 8 b.val)

/-- OP_PAGE, the page-select opcode (R9; D7). -/
opaque Config.opPage : Byte

/-- OP_CAL, the calibration-data opcode (R9). -/
opaque Config.opCal : Byte

/-- OP_UNK0, the first undocumented opcode (R9). -/
opaque Config.opUnk0 : Byte

/-- OP_UNK1, the second undocumented opcode (R9). -/
opaque Config.opUnk1 : Byte

/-- Free permutation of the 16-bit values. The three transfer parameters are the images of 0, 1 and 2, which says of
them exactly that they are pairwise distinct (R10). -/
opaque Config.paramCode : Equiv.Perm Param

/-- P_DEFAULT (R9). -/
def Config.pDefault : Param := Config.paramCode 0

/-- P_PRESAVE, distinct from P_DEFAULT (R9, R10). -/
def Config.pPresave : Param := Config.paramCode 1

/-- P_SAVE, distinct from both others (R9, R10). -/
def Config.pSave : Param := Config.paramCode 2

/-- RGB_OFF, with 0 ≤ RGB_OFF ≤ 34, so that the three colour bytes lie inside Raw Frame 3 (R9, R10). -/
opaque Config.rgbOff : Fin 35

/-- The bytes of CAL by linear address, 5 × 3 × 12 (R50). -/
opaque Config.cal : Fin 180 → Byte

/-- The bytes of RAW by linear address, 11 × 37 (R51). -/
opaque Config.raw : Fin 407 → Byte

/-- The bytes of PRESAVE (R53). -/
opaque Config.presave : Fin 39 → Byte

/-- The bytes of SAVE (R54). -/
opaque Config.save : Fin 2 → Byte

/-- VID, held by the Transport; no rule of the block reads it, and the spec gives no width (R9, R180). -/
opaque Config.vid : Nat

/-- PID, held by the Transport; no rule of the block reads it, and the spec gives no width (R9, R180). -/
opaque Config.pid : Nat

/-- IFACE, the interface number the Transport puts in a control transfer's index (R9, R92). -/
opaque Config.iface : Nat

/-- REQ of the Transport, the fixed request code of a control transfer (R9, R92); not the block's output REQ. -/
opaque Config.requestCode : Nat

/-- BASE, where the platform places the host window; no rule reads it (R64). -/
opaque Config.base : Nat

end Sys2Proof
end

