-- ==== Sys2Proof/Machine/Literals.lean ====
section
/-! DEFINITION. The parameters of 00_scope.md rule R9 whose value the source fixes (its numeric literals, unaudited: R3,
log entry 12), each under the name of R9, and the OP values of R75. -/

namespace Sys2Proof.Machine

/-- FRAME_MARKER, byte 0 of a Command Frame (R9, R85). -/
abbrev frameMarker : Byte := 0x01
/-- FRAME_RESERVED, byte 1 of a Command Frame (R9, R86). -/
abbrev frameReserved : Byte := 0x00
/-- MAX_PAYLOAD (R9, R86). -/
abbrev maxPayload : Nat := 12
/-- RGB_FRAME, the zero-based index of the Raw Frame with the colour bytes (R9, R15, C2). -/
abbrev rgbFrame : Nat := 3
/-- EQ_ZERO, the value of 0 dB (R9). -/
abbrev eqZero : Byte := 0x18
/-- EQ_MAX, the largest legal value (R9, R108). -/
abbrev eqMax : Byte := 0x30
/-- CAL_PAGE, the calibration page (R9, R114). -/
abbrev calPage : Byte := 0x0D
/-- UNK0_PAYLOAD (R9, R117). -/
abbrev unk0Payload : Byte := 0x00
/-- UNK1_PAYLOAD (R9, R117). -/
abbrev unk1Payload : Byte := 0x04
/-- OP_MIC, the microphone opcode (R9, R142). -/
abbrev opMic : Byte := 0xF0
/-- MIC_ON, the payload of an enabled microphone flag (R9, R142). -/
abbrev micOn : Byte := 0xF1
/-- MIC_OFF, the payload of a disabled microphone flag (R9, R142). -/
abbrev micOff : Byte := 0x00
/-- The OP value of MIC_SET (R75). -/
abbrev opMicSet : BitVec 4 := 0x1
/-- The OP value of EQ_SET (R75). -/
abbrev opEqSet : BitVec 4 := 0x2
/-- The OP value of COLOR_SET (R75). -/
abbrev opColorSet : BitVec 4 := 0x3

end Sys2Proof.Machine
end

