-- ==== Sys2Proof/Machine/State.lean ====
section
/-! DEFINITION. The state of the block (10_state.md rule R21), its inputs as plain data, the record of what an observer
sees (R18), the faults and refusals, and the state after reset (R48, R185). -/

namespace Sys2Proof.Machine

/-- SEQ, the sequencer state (R23). -/
inductive Seq where
  | idle
  | busy
  deriving DecidableEq, Repr

/-- The values of STATUS.ERR that are ever written (R43, R163); their 4-bit codes are in Machine/Flags.lean. -/
inductive ErrorCode where
  | none
  | invalidArgument
  | transferFailed
  | linkDown
  deriving DecidableEq, Repr

/-- RESP, the Transport's answer to an outstanding frame (R36). -/
inductive Response where
  | ok
  | fail
  deriving DecidableEq, Repr

/-- One step of the environment (R143): the host's accesses with their offset in the window and width in bits (R57), the
Transport's answer, a change of the LINK input (R35), and reset. -/
inductive Event where
  | hostWrite (offset width : Nat) (data : Word)
  | hostRead (offset width : Nat)
  | respond (r : Response)
  | link (up : Bool)
  | reset
  deriving DecidableEq, Repr

/-- What an observer of the block sees (R18): a frame presented with its transfer parameter, the Transport's answer to
it, and the value a host read returned. -/
inductive Obs where
  | presented (frame : Frame) (param : Param)
  | answered (r : Response)
  | readBack (offset width : Nat) (data : Word)
  deriving DecidableEq, Repr

/-- Reasons the model stops. None is a behaviour of the block: each stands where the spec gives no frame at all, and no
state that keeps the invariant of R158 reaches one. -/
inductive Fault where
  /-- Raised by the Frame Encoder for a payload longer than 12 bytes (R101, R168). Safe: the model stops. -/
  | encFault
  /-- Raised by FRAME for an index outside the sequence (R149 asks for a fault). Safe: the model stops. -/
  | frameOutOfRange
  /-- Raised by FRAME and by an OK answer when OPR names no sequence (R148: N is not defined). Safe: the model stops. -/
  | sequenceUndefined
  /-- Raised by a table read whose band or row is outside the table (R50, R10). Safe: the model stops. -/
  | tableIndexOut
  deriving DecidableEq, Repr

/-- Reasons a command has no meaning. -/
inductive Refusal where
  /-- Raised by an arm of exec for a command that has no meaning yet; no arm raises it. Safe: the model stops. -/
  | notModelled (mnemonic : String)
  deriving DecidableEq, Repr

/-- The state: the fields of R21 under their own names, then the environment's inputs and the observer's record. -/
structure State where
  /-- SEQ (R23). -/
  seq : Seq
  /-- IDX, the index of the outstanding frame (R24). -/
  idx : BitVec 5
  /-- OPR, OP of the last accepted command (R25). -/
  opr : BitVec 4
  /-- BAND of the last accepted EQ_SET (R26). -/
  band : BitVec 3
  /-- VALUE of the last accepted EQ_SET (R27). -/
  value : BitVec 8
  /-- ROW, the calibration row computed at acceptance (R28). -/
  row : BitVec 2
  /-- RED of the last accepted COLOR_SET (R29). -/
  red : BitVec 8
  /-- GREEN of the last accepted COLOR_SET (R29). -/
  green : BitVec 8
  /-- BLUE of the last accepted COLOR_SET (R29). -/
  blue : BitVec 8
  /-- EN of the last accepted MIC_SET (R30). -/
  en : BitVec 1
  /-- FB[0..38], the frame buffer (R31). -/
  fb : Vector Byte 39
  /-- FLEN, the length of the frame in FB (R32). -/
  flen : BitVec 6
  /-- FPARAM, the transfer parameter of the frame in FB (R33). -/
  fparam : Param
  /-- REQ: a frame is presented and not yet answered (R34). -/
  req : Bool
  /-- STATUS.DONE (R40). -/
  done : Bool
  /-- STATUS.OVR (R41). -/
  ovr : Bool
  /-- STATUS.ERR (R43). -/
  err : ErrorCode
  /-- STATUS.ERR_OP (R44). -/
  errOp : BitVec 4
  /-- STATUS.ERR_IDX (R44). -/
  errIdx : BitVec 5
  /-- The present level of the LINK input (R35); not state of the block. -/
  link : Bool
  /-- The environment's steps to come, the first one next; not state of the block (log entry 1). -/
  inputs : List Event
  /-- What has been observed so far (R18), oldest first; nothing the block does reads it (log entry 3). -/
  log : List Obs
  deriving DecidableEq, Repr

/-- The state after reset (R48, R185). LINK, the inputs and the log are the model's: DESIGN CHOICE, log entries 1 to 3. -/
def State.reset : State where
  seq := .idle
  idx := 0
  opr := 0x0
  band := 0
  value := 0
  row := 0
  red := 0
  green := 0
  blue := 0
  en := 0
  fb := Vector.replicate 39 0x00
  flen := 0
  fparam := 0x0000
  req := false
  done := false
  ovr := false
  err := .none
  errOp := 0
  errIdx := 0
  link := false
  inputs := []
  log := []

/-- The three outcomes of a step of this machine. -/
abbrev Result := Host.Outcome State Fault Refusal

/-- What an environment step asks of the block: a command to run, or another step with its outcome. -/
inductive Action where
  | command (w : Word)
  | effect (r : Result)

end Sys2Proof.Machine
end

