-- ==== Sys2Proof/Machine/Flags.lean ====
section
/-! DEFINITION. STATUS: its fields, the word a read returns (10_state.md rules R38 to R45), the codes of the errors (R163)
and the phase of a frame (R46). -/

namespace Sys2Proof.Machine

/-- The 4-bit code of an error in STATUS.ERR (R43, R163, R170). -/
def errorCode : ErrorCode → BitVec 4
  | .none => 0
  | .invalidArgument => 1
  | .transferFailed => 2
  | .linkDown => 3

/-- STATUS.BUSY (R39). -/
def busyBit (s : State) : Bool := s.seq == .busy

/-- The STATUS word (R38): from bit 31 down, reserved, IDX, CUR_OP, reserved, ERR_IDX, ERR_OP, ERR, LINK (live, R42),
OVR, DONE, BUSY. -/
def statusWord (s : State) : Word :=
  0#3 ++ s.idx ++ s.opr ++ 0#3 ++ s.errIdx ++ s.errOp ++ errorCode s.err
    ++ BitVec.ofBool s.link ++ BitVec.ofBool s.ovr ++ BitVec.ofBool s.done ++ BitVec.ofBool (busyBit s)

/-- The phases of the sequences (R46). -/
inductive Phase where
  | prologue
  | calibration
  | epilogue
  | colorDefault
  | preSave
  | save
  | mic
  deriving DecidableEq, Repr

/-- The phase of frame idx of a command (R46); none where the pair names no frame of a sequence. -/
def phase (op : BitVec 4) (idx : BitVec 5) : Option Phase :=
  if op = opEqSet then
    if idx.toNat ≤ 2 then some .prologue
    else if idx.toNat ≤ 14 then some .calibration
    else if idx.toNat ≤ 18 then some .epilogue
    else none
  else if op = opColorSet then
    if idx.toNat ≤ 10 then some .colorDefault
    else if idx.toNat = 11 then some .preSave
    else if idx.toNat = 12 then some .save
    else none
  else if op = opMicSet then
    if idx.toNat = 0 then some .mic else none
  else none

end Sys2Proof.Machine
end

