-- ==== Sys2Proof/Machine/Tables.lean ====
section
/-! DEFINITION. Reads of the constant tables (20_memory.md rules R50 to R55) and of the band register opcodes. A read has
no side effect and no step writes a table, since the tables are no part of State. -/

namespace Sys2Proof.Machine

/-- OP_REG[b] for the band in a latch: five bands exist (R9); another index has no opcode. -/
def opReg (b : BitVec 3) : Except Fault Byte :=
  if h : b.toNat < 5 then .ok (Config.opReg ⟨b.toNat, h⟩) else .error .tableIndexOut

/-- CAL(b, r, i), the byte at linear address b·36 + r·12 + i (R50). -/
def calByte (b : BitVec 3) (r : BitVec 2) (i : Nat) : Except Fault Byte :=
  if h : b.toNat < 5 ∧ r.toNat < 3 ∧ i < 12 then
    .ok (Config.cal ⟨b.toNat * 36 + r.toNat * 12 + i, by omega⟩)
  else .error .tableIndexOut

/-- RAW(k, i), the byte at linear address k·37 + i (R51). -/
def rawByte (k : Fin 11) (i : Fin 37) : Byte :=
  Config.raw ⟨k.val * 37 + i.val, by omega⟩

/-- RAW(k, 0..36) (R51, R87). -/
def rawFrame (k : Fin 11) : Frame := List.ofFn fun i : Fin 37 => rawByte k i

/-- PRESAVE(0..38) (R53, R88). -/
def presaveFrame : Frame := List.ofFn fun i : Fin 39 => Config.presave i

/-- SAVE(0..1) (R54, R88). -/
def saveFrame : Frame := List.ofFn fun i : Fin 2 => Config.save i

end Sys2Proof.Machine
end

