-- ==== Sys2Proof/Machine/Frames.lean ====
section
/-! DEFINITION. The frames: the Frame Encoder ENC (40_frame_encoder.md), EQFRAME (41_equalizer.md rule R119), COLORFRAME
with the RGB substitution (42_color.md rules R127, R131), MICFRAME (43_microphone.md rule R139), the sequence lengths
N (R148) and FRAME (R149). Encoded and captured frames are built by separate paths (R89). -/

namespace Sys2Proof.Machine

/-- ENC(opcode, payload), the Frame Encoder: a function of its two operands alone (R99, R100), which rejects a payload
longer than 12 bytes and never truncates (R101, C1). -/
def enc (opcode : Byte) (payload : List Byte) : Except Fault Frame :=
  if payload.length ≤ maxPayload then
    .ok ([frameMarker, frameReserved, opcode, BitVec.ofNat 8 payload.length] ++ payload
      ++ List.replicate (12 - payload.length) 0x00)
  else .error .encFault

/-- EQFRAME(k), k in 0..18 (R119); another k gives no frame (R149). -/
def eqFrame (s : State) (k : Nat) : Except Fault Frame :=
  if k = 0 then (opReg s.band).bind fun op => enc op [eqZero]
  else if k = 1 then enc Config.opPage [calPage]
  else if k = 2 then enc Config.opPage [s.band.setWidth 8 + 1]
  else if k ≤ 14 then (calByte s.band s.row (k - 3)).bind fun byte => enc Config.opCal [byte]
  else if k = 15 then enc Config.opUnk0 [unk0Payload]
  else if k = 16 then enc Config.opUnk1 [unk1Payload]
  else if k = 17 then (opReg s.band).bind fun op => enc op [s.value]
  else if k = 18 then enc Config.opPage [calPage]
  else .error .frameOutOfRange

/-- MUX3(i): byte i of Raw Frame 3 with the latched colour in place of the captured one (R127). -/
def mux3 (s : State) (i : Fin 37) : Byte :=
  if i.val = Config.rgbOff.val then s.red
  else if i.val = Config.rgbOff.val + 1 then s.green
  else if i.val = Config.rgbOff.val + 2 then s.blue
  else rawByte 3 i

/-- COLORFRAME(k), k in 0..12, with its transfer parameter (R130, R131); another k gives no frame (R149). -/
def colorFrame (s : State) (k : Nat) : Except Fault (Frame × Param) :=
  if k = rgbFrame then .ok (List.ofFn fun i : Fin 37 => mux3 s i, Config.pDefault)
  else if h : k < 11 then .ok (rawFrame ⟨k, h⟩, Config.pDefault)
  else if k = 11 then .ok (presaveFrame, Config.pPresave)
  else if k = 12 then .ok (saveFrame, Config.pSave)
  else .error .frameOutOfRange

/-- MICFRAME(0) (R139); another index gives no frame (R149). -/
def micFrame (s : State) (k : Nat) : Except Fault Frame :=
  if k = 0 then enc opMic [if s.en = 1 then micOn else micOff]
  else .error .frameOutOfRange

/-- N(op), the length of a sequence, defined for the three commands only (R148). -/
def seqLength (op : BitVec 4) : Option Nat :=
  if op = opMicSet then some 1
  else if op = opEqSet then some 19
  else if op = opColorSet then some 13
  else none

/-- FRAME(op, k): the bytes and the transfer parameter of frame k (R149). -/
def frame (s : State) (op : BitVec 4) (k : Nat) : Except Fault (Frame × Param) :=
  if op = opMicSet then (micFrame s k).map fun f => (f, Config.pDefault)
  else if op = opEqSet then (eqFrame s k).map fun f => (f, Config.pDefault)
  else if op = opColorSet then colorFrame s k
  else .error .sequenceUndefined

end Sys2Proof.Machine
end

