-- ==== Sys2Proof/Machine/Ops.lean ====
section
/-! DEFINITION. The operations the steps share: Present (44_sequencer.md rule R150), raise (60_exceptions.md rule R170), the
clear of the error record (R145), the start of a sequence (R147), and a CMD write as one program (R157). The statements
of a step run in order, a later write over an earlier one (R14, C9). -/

namespace Sys2Proof.Machine

/-- A frame in the 39 bytes of FB: its bytes from 0, and 0x00 past its length (R31, R150). -/
def fitFrame (f : Frame) : Vector Byte 39 :=
  ⟨((f ++ List.replicate 39 0x00).take 39).toArray, by simp⟩

/-- Present(F, p) (R150), recorded for the observer (R18). -/
def present (f : Frame) (p : Param) (s : State) : State :=
  { s with
    fb := fitFrame f, flen := BitVec.ofNat 6 f.length, fparam := p, req := true,
    log := s.log ++ [.presented f p] }

/-- raise E(op, idx), the block's one error record: its "trap entry" (R170, R174). -/
def raise (e : ErrorCode) (op : BitVec 4) (idx : BitVec 5) (s : State) : State :=
  { s with err := e, errOp := op, errIdx := idx }

/-- The clear of the previous command's record by a CMD write while idle: the block's "trap return" (R145, R175). -/
def clearRecord (s : State) : State :=
  { s with done := false, ovr := false, err := .none, errOp := 0, errIdx := 0 }

/-- The end of a sequence: REQ and SEQ and IDX back to idle, everything else kept (R153, R154). -/
def goIdle (s : State) : State := { s with req := false, seq := .idle, idx := 0 }

/-- Present FRAME(OPR, k); where FRAME gives no frame, a fault and no frame (R149). -/
def presentAt (k : Nat) (s : State) : Result :=
  match frame s s.opr k with
  | .ok (f, p) => .next (present f p s)
  | .error e => .fault e

/-- The start of an accepted command's sequence (R147). -/
def startSequence (op : BitVec 4) (s : State) : Result :=
  presentAt 0 { s with opr := op, idx := 0, seq := .busy }

/-- HostWrite(0x0, w) as one program (R144 to R147, R157) for a command whose OP is op, whose checks (2) to (4) of R146
come out as valid, and whose latch writes are latch. -/
def cmdWrite (op : BitVec 4) (valid : Bool) (latch : State → State) (s : State) : Result :=
  if s.seq = .busy then .next { s with ovr := true }
  else if s.link = false then .next (raise .linkDown op 0 (clearRecord s))
  else if valid = false then .next (raise .invalidArgument op 0 (clearRecord s))
  else startSequence op (latch (clearRecord s))

end Sys2Proof.Machine
end

