-- ==== Sys2Proof/Machine/Sequencer.lean ====
section
/-! DEFINITION. The Transport's answer (44_sequencer.md rules R151 to R154) and the reset step (70_reset_and_hazards.md
rules R185, R186). -/

namespace Sys2Proof.Machine

/-- The rest of an OK answer with IDX = k: complete at the last frame (R153), else frame k + 1 (R152). -/
def answerOk (s : State) : Result :=
  match seqLength s.opr with
  | none => .fault .sequenceUndefined
  | some n =>
    if s.idx.toNat = n - 1 then .next (goIdle { s with done := true })
    else presentAt (s.idx.toNat + 1) { s with idx := s.idx + 1 }

/-- A FAIL answer with IDX = k: TRANSFER_FAILED(OPR, k), and the sequence is abandoned (R154). -/
def answerFail (s : State) : State := goIdle (raise .transferFailed s.opr s.idx s)

/-- TransportRespond(r), taken only while REQ = 1 (R151); an answer that comes without an outstanding frame is discarded
(R186, log entry 7). -/
def transportRespond (r : Response) (s : State) : Result :=
  if s.req = false then .next s
  else
    match r with
    | .ok => answerOk { s with log := s.log ++ [.answered .ok] }
    | .fail => .next (answerFail { s with log := s.log ++ [.answered .fail] })

/-- The reset step, from any state (R185, R186): every piece of state to its reset value; the LINK input, the
environment's coming steps and the observer's record are not the block's to reset. -/
def resetBlock (s : State) : State :=
  { State.reset with link := s.link, inputs := s.inputs, log := s.log }

end Sys2Proof.Machine
end

