-- ==== Sys2Proof/Machine/Bus.lean ====
section
/-! DEFINITION. The host window (20_memory.md rules R56, R57, R64) and what each step of the environment asks of the block
(44_sequencer.md rule R143). -/

namespace Sys2Proof.Machine

/-- Host offset of CMD (R37, R64). -/
abbrev cmdOffset : Nat := 0x0
/-- Host offset of STATUS (R38, R64). -/
abbrev statusOffset : Nat := 0x4

/-- What a host read of the given width in bits at the given offset returns (R57, R156): STATUS for a 32-bit read at 0x4,
0 for CMD and for every other access. -/
def hostReadValue (offset width : Nat) (s : State) : Word :=
  if offset = statusOffset ∧ width = 32 then statusWord s else 0

/-- A host read: it changes nothing of the block (R156); the observer records the value returned (R18). -/
def hostRead (offset width : Nat) (s : State) : State :=
  { s with log := s.log ++ [.readBack offset width (hostReadValue offset width s)] }

/-- What a step of the environment asks of the block (R143): a 32-bit write at CMD is a command, every other write is
ignored (R57); LINK takes the level given (R35). -/
def route (e : Event) (s : State) : Action :=
  match e with
  | .hostWrite offset width data =>
    if offset = cmdOffset ∧ width = 32 then .command data else .effect (.next s)
  | .hostRead offset width => .effect (.next (hostRead offset width s))
  | .respond r => .effect (transportRespond r s)
  | .link up => .effect (.next { s with link := up })
  | .reset => .effect (.next (resetBlock s))

end Sys2Proof.Machine
end

