-- ==== Sys2Proof/Machine/Operands.lean ====
section
/-! DEFINITION. Operands of the commands: the validity checks of 44_sequencer.md rule R146 (2) to (4), the row selection of
41_equalizer.md rule R110, the latch writes of rule R147, and the informational value scale of rule R120. All
comparisons are unsigned (R11, R111). -/

namespace Sys2Proof.Machine

/-- Legal operands of EQ_SET: BAND ≤ 4 and VALUE ≤ 0x30 (R108). -/
def eqLegal (band : BitVec 3) (value : BitVec 8) : Bool :=
  decide (band.toNat ≤ 4) && decide (value.toNat ≤ eqMax.toNat)

/-- A legal colour component: at most 255 (R124). -/
def componentLegal (c : BitVec 9) : Bool := decide (c.toNat ≤ 255)

/-- Legal operands of COLOR_SET (R124). -/
def colorLegal (red green blue : BitVec 9) : Bool :=
  componentLegal red && componentLegal green && componentLegal blue

/-- The calibration row: 0 below, 1 at and 2 above the value of 0 dB (R110). -/
def rowOf (value : BitVec 8) : BitVec 2 :=
  if value.toNat < eqZero.toNat then 0 else if value = eqZero then 1 else 2

/-- The latch writes of an accepted EQ_SET (R107, R147). -/
def latchEq (band : BitVec 3) (value : BitVec 8) (s : State) : State :=
  { s with band := band, value := value, row := rowOf value }

/-- The latch writes of an accepted COLOR_SET, each component's low eight bits (R123, R147). -/
def latchColor (red green blue : BitVec 9) (s : State) : State :=
  { s with red := red.setWidth 8, green := green.setWidth 8, blue := blue.setWidth 8 }

/-- The latch write of an accepted MIC_SET (R138, R147). -/
def latchMic (en : BitVec 1) (s : State) : State := { s with en := en }

/-- The level a VALUE stands for, in half decibels: (v − 0x18) / 2 dB (R120). No step reads it. -/
def halfDecibels (value : BitVec 8) : Int := (value.toNat : Int) - (eqZero.toNat : Int)

/-- The frequency a band index stands for, in hertz (R120; D6). No step reads it. -/
def bandHertz (b : Fin 5) : Nat := [80, 280, 1000, 3500, 13000].getD b.val 0

end Sys2Proof.Machine
end

