-- ==== Sys2Proof/Machine/Color.lean ====
section
/-! DEFINITION. The meaning of COLOR_SET (42_color.md rule R123). -/

namespace Sys2Proof.Machine

/-- COLOR_SET: valid when its reserved bit is zero (R82) and every component is at most 255 (R124). -/
def execColorSet (resv : BitVec 1) (red green blue : BitVec 9) (s : State) : Result :=
  cmdWrite opColorSet (resv == 0 && colorLegal red green blue) (latchColor red green blue) s

end Sys2Proof.Machine
end

