-- ==== Sys2Proof/Machine/Equalizer.lean ====
section
/-! DEFINITION. The meaning of EQ_SET (41_equalizer.md rule R107). -/

namespace Sys2Proof.Machine

/-- EQ_SET: valid when its reserved bits are zero (R82) and BAND and VALUE are in range (R108). -/
def execEqSet (resv : BitVec 17) (band : BitVec 3) (value : BitVec 8) (s : State) : Result :=
  cmdWrite opEqSet (resv == 0 && eqLegal band value) (latchEq band value) s

end Sys2Proof.Machine
end

