-- ==== Sys2Proof/Machine/Microphone.lean ====
section
/-! DEFINITION. The meaning of MIC_SET (43_microphone.md rule R138). -/

namespace Sys2Proof.Machine

/-- MIC_SET: valid when its reserved bits are zero (R82); EN has no out-of-range value (R138). -/
def execMicSet (resv : BitVec 27) (en : BitVec 1) (s : State) : Result :=
  cmdWrite opMicSet (resv == 0) (latchMic en) s

end Sys2Proof.Machine
end

