-- ==== Sys2Proof/Machine/Reserved.lean ====
section
/-! DEFINITION. The meanings of the three RESERVED rows (30_encoding.md rule R81): never valid, so the record in STATUS is
the whole effect; ERR_OP is the word's OP, whatever its other bits. -/

namespace Sys2Proof.Machine

/-- RESERVED with OP = 0x0 (R81). -/
def execReserved0 (_rest : BitVec 28) (s : State) : Result :=
  cmdWrite 0x0 false id s

/-- RESERVED with OP = 0x4..0x7 (R81). -/
def execReserved4to7 (sub : BitVec 2) (_rest : BitVec 28) (s : State) : Result :=
  cmdWrite (0x1#2 ++ sub) false id s

/-- RESERVED with OP = 0x8..0xF (R81). -/
def execReserved8toF (sub : BitVec 3) (_rest : BitVec 28) (s : State) : Result :=
  cmdWrite (0x1#1 ++ sub) false id s

end Sys2Proof.Machine
end

