-- ==== Sys2Proof/Machine/Dispatch.lean ====
section
/-! DEFINITION. One arm per command: the host's write of its word to CMD (44_sequencer.md rule R157). -/

namespace Sys2Proof.Machine

def exec (i : Instr) (s : State) : Host.Outcome State Fault Refusal :=
  match i with
  | .micSet resv en => Sys2Proof.Machine.execMicSet resv en s
  | .eqSet resv band value => Sys2Proof.Machine.execEqSet resv band value s
  | .colorSet resv red green blue => Sys2Proof.Machine.execColorSet resv red green blue s
  | .reserved0 rest => Sys2Proof.Machine.execReserved0 rest s
  | .reserved4to7 sub rest => Sys2Proof.Machine.execReserved4to7 sub rest s
  | .reserved8toF sub rest => Sys2Proof.Machine.execReserved8toF sub rest s

end Sys2Proof.Machine
end

