-- ==== Sys2Proof/Machine/Step.lean ====
section
/-! DEFINITION. One step of the machine: the environment's next step reaches the block and is taken as one atomic step
(44_sequencer.md rules R143, R14). With no step to come the block waits (R155, R187). -/

namespace Sys2Proof.Machine

/-- One step. The environment's first step leaves the list and the block takes it; a command is decoded and run. With
an empty list nothing happens: the block has no step of its own and no timeout (R155), so the state stays (log
entry 6). -/
def step (s : State) : Host.Outcome State Fault Refusal :=
  match s.inputs with
  | [] => .next s
  | e :: rest =>
    match route e { s with inputs := rest } with
    | .command w => exec (decode w) { s with inputs := rest }
    | .effect r => r

/-- s with the host's 32-bit write of the word w to CMD as the environment's next step, and with LINK = 1, which a command
needs to be accepted (R189; log entry 9). Bits above nbits are 0. -/
def State.withFetchWord (s : State) (nbits w : Nat) : State :=
  { s with
    link := true
    inputs := .hostWrite cmdOffset 32 (BitVec.ofNat 32 (w % 2 ^ nbits)) :: s.inputs }

end Sys2Proof.Machine
end

