-- ==== Sys2Proof/Machine/Assembler.lean ====
section
/-! DEFINITION. The assembler and the disassembler (30_encoding.md rules R93 to R97): lines as data with their encoding, then
their text. -/

namespace Sys2Proof.Machine

/-- A line of assembly (R93, R95); operands are unsigned integers of any size, checked by assemble. -/
inductive AsmLine where
  | micSet (en : Nat)
  | eqSet (band value : Nat)
  | colorSet (red green blue : Nat)
  | word (w : Nat)
  | micOn
  | micOff
  | eqFlat (band : Nat)
  deriving DecidableEq, Repr

/-- The word of a line: an operand that fits its field is encoded even if the block will reject it, one that does not is
an assembly error and yields no word; reserved bits are 0 but under .word (R94). -/
def assemble : AsmLine → Option Word
  | .micSet en =>
    if en < 2 then some (encode (.micSet 0 (BitVec.ofNat 1 en))) else none
  | .eqSet band value =>
    if band < 8 ∧ value < 256 then some (encode (.eqSet 0 (BitVec.ofNat 3 band) (BitVec.ofNat 8 value))) else none
  | .colorSet red green blue =>
    if red < 512 ∧ green < 512 ∧ blue < 512 then
      some (encode (.colorSet 0 (BitVec.ofNat 9 red) (BitVec.ofNat 9 green) (BitVec.ofNat 9 blue)))
    else none
  | .word w => if w < 2 ^ 32 then some (BitVec.ofNat 32 w) else none
  | .micOn => some (encode (.micSet 0 1))
  | .micOff => some (encode (.micSet 0 0))
  | .eqFlat band =>
    if band < 8 then some (encode (.eqSet 0 (BitVec.ofNat 3 band) 0x18)) else none

/-- The line of a word: its own form for a defined OP with zero reserved bits, .word for every other (R96). -/
def disassemble (w : Word) : AsmLine :=
  match decode w with
  | .micSet resv en => if resv = 0 then .micSet en.toNat else .word w.toNat
  | .eqSet resv band value => if resv = 0 then .eqSet band.toNat value.toNat else .word w.toNat
  | .colorSet resv red green blue =>
    if resv = 0 then .colorSet red.toNat green.toNat blue.toNat else .word w.toNat
  | .reserved0 _ => .word w.toNat
  | .reserved4to7 _ _ => .word w.toNat
  | .reserved8toF _ _ => .word w.toNat

/-- The digit of a hexadecimal number, upper case (log entry 8). -/
def hexDigit (n : Nat) : Char := "0123456789ABCDEF".toList.getD n '0'

/-- A number in hexadecimal, its low digits as many as asked for, with 0x before them. -/
def hexText (digits n : Nat) : List Char :=
  ['0', 'x'] ++ ((List.range digits).reverse.map fun d => hexDigit (n / 16 ^ d % 16))

/-- VALUE and the components in hexadecimal (R96): two digits, three where two are too few (log entry 8). -/
def operandText (n : Nat) : List Char := if n < 256 then hexText 2 n else hexText 3 n

/-- The text of a line that disassemble gives (R96): BAND and EN in decimal. A line of the pseudo-instructions is printed
as its expansion (R95). -/
def printLine : AsmLine → List Char
  | .micSet en => "mic.set ".toList ++ [hexDigit en]
  | .eqSet band value => "eq.set ".toList ++ [hexDigit band] ++ ", ".toList ++ operandText value
  | .colorSet red green blue =>
    "color.set ".toList ++ operandText red ++ ", ".toList ++ operandText green ++ ", ".toList ++ operandText blue
  | .word w => ".word ".toList ++ hexText 8 w
  | .micOn => "mic.set 1".toList
  | .micOff => "mic.set 0".toList
  | .eqFlat band => "eq.set ".toList ++ [hexDigit band] ++ ", 0x18".toList

/-- The tokens of a line: words in lower case (R93: mnemonics are case-insensitive) and commas, with blanks between and a
comment after a semicolon (log entry 8). The first argument is the word being read. -/
def lexLine : List Char → List Char → List (List Char)
  | acc, [] => if acc = [] then [] else [acc]
  | acc, c :: cs =>
    if c = ';' then (if acc = [] then [] else [acc])
    else if c = ' ' ∨ c = '\t' then (if acc = [] then lexLine [] cs else acc :: lexLine [] cs)
    else if c = ',' then (if acc = [] then [','] :: lexLine [] cs else acc :: [','] :: lexLine [] cs)
    else lexLine (acc ++ [c.toLower]) cs

/-- The value of a digit in the given base, in lower case. -/
def digitValue (base : Nat) (c : Char) : Option Nat :=
  let n := "0123456789abcdef".toList.idxOf c
  if n < base then some n else none

/-- The value of a sequence of digits, after the value read so far. -/
def digitsValue (base : Nat) : Nat → List Char → Option Nat
  | n, [] => some n
  | n, c :: cs =>
    match digitValue base c with
    | some d => digitsValue base (n * base + d) cs
    | none => none

/-- An operand: decimal, or hexadecimal with 0x (R93). -/
def parseNumber : List Char → Option Nat
  | '0' :: 'x' :: c :: cs => digitsValue 16 0 (c :: cs)
  | c :: cs => digitsValue 10 0 (c :: cs)
  | [] => none

/-- A line of one operand. -/
def parse1 (make : Nat → AsmLine) (a : List Char) : Option AsmLine := (parseNumber a).map make

/-- A line's text (R93, R95); none for any other text. -/
def parseLine (text : List Char) : Option AsmLine :=
  match lexLine [] text with
  | [m] =>
    if m = "mic.on".toList then some .micOn
    else if m = "mic.off".toList then some .micOff
    else none
  | [m, a] =>
    if m = "mic.set".toList then parse1 .micSet a
    else if m = "eq.flat".toList then parse1 .eqFlat a
    else if m = ".word".toList then parse1 .word a
    else none
  | [m, a, [','], b] =>
    if m = "eq.set".toList then (parseNumber a).bind fun x => parse1 (.eqSet x) b
    else none
  | [m, a, [','], b, [','], c] =>
    if m = "color.set".toList then
      (parseNumber a).bind fun x => (parseNumber b).bind fun y => parse1 (.colorSet x y) c
    else none
  | _ => none

/-- The assembler on text. -/
def assembleText (text : List Char) : Option Word := (parseLine text).bind assemble

/-- The disassembler to text (R96). -/
def disassembleText (w : Word) : List Char := printLine (disassemble w)

end Sys2Proof.Machine
end

