-- ==== Sys2Proof/Machine/Transport.lean ====
section
/-! DEFINITION. What the Transport takes from the block (44_sequencer.md rule R150, 60_exceptions.md rule R180) and the control
transfer it carries it in (30_encoding.md rule R92): views of the state, which no step reads. -/

namespace Sys2Proof.Machine

/-- The outstanding frame FB[0..FLEN-1] with FPARAM, while REQ = 1 (R34, R150). -/
def outstanding (s : State) : Option (Frame × Param) :=
  if s.req then some (s.fb.toList.take s.flen.toNat, s.fparam) else none

/-- bmRequestType of a class, interface-recipient, host-to-device request: PRESUMED, the spec gives it in R92 from general
knowledge (log entry 13). -/
abbrev classInterfaceWrite : Byte := 0x21

/-- The fields of the class-scoped, interface-recipient control write that R92 names. -/
structure ControlTransfer where
  requestType : Byte
  request : Nat
  value : Param
  index : Nat
  length : Nat
  data : Frame
  deriving DecidableEq, Repr

/-- The control transfer of the outstanding frame (R58, R59, R92): data stage FB[0] first, value = FPARAM, index the
interface number, the fixed request code, and FLEN as its length (log entry 13). -/
def controlTransfer (s : State) : Option ControlTransfer :=
  (outstanding s).map fun (f, p) =>
    { requestType := classInterfaceWrite, request := Config.requestCode, value := p, index := Config.iface,
      length := s.flen.toNat, data := f }

end Sys2Proof.Machine
end

