-- ==== Sys2Proof/Safety.lean ====
section
/-! DEFINITION. What claims about the machine use: the invariant of 44_sequencer.md rule R158, the frames in an observer's
record (R18, R159), and steps of the environment as inputs. -/

namespace Sys2Proof.Machine

/-- FB, FLEN and FPARAM hold FRAME(OPR, IDX), and FB holds 0x00 past it (R158, R31). -/
def FrameHeld (s : State) : Prop :=
  ∃ f p, frame s s.opr s.idx.toNat = .ok (f, p) ∧ s.fb = fitFrame f ∧ s.flen = BitVec.ofNat 6 f.length ∧ s.fparam = p

/-- The invariant of R158, with what R28, R43, R44 and R192 add to it. -/
structure Invariant (s : State) : Prop where
  /-- REQ = 1 exactly when SEQ = BUSY (R34, R158). -/
  req_iff_busy : s.req = true ↔ s.seq = .busy
  /-- While BUSY, OPR names a sequence, IDX is inside it, and the buffer holds its frame (R158). -/
  busy_frame : s.seq = .busy → ∃ n, seqLength s.opr = some n ∧ s.idx.toNat < n ∧ FrameHeld s
  /-- While IDLE, IDX = 0 (R24, R158). -/
  idle_idx : s.seq = .idle → s.idx = 0
  /-- OPR is 0 or the OP of a command (R25). -/
  opr_known : s.opr.toNat ≤ 3
  /-- BAND ≤ 4 (R26, R158). -/
  band_le : s.band.toNat ≤ 4
  /-- VALUE ≤ 0x30 (R27, R158). -/
  value_le : s.value.toNat ≤ 0x30
  /-- ROW is the row of VALUE (R28), so it is at most 2 (R158). -/
  row_eq : s.row = rowOf s.value
  /-- DONE = 1 implies ERR = 0 (R40, R158). -/
  done_no_error : s.done = true → s.err = .none
  /-- While BUSY, DONE and ERR read 0 (R192). -/
  busy_no_record : s.seq = .busy → s.done = false ∧ s.err = .none
  /-- ERR = TRANSFER_FAILED implies ERR_IDX < N(ERR_OP) (R158). -/
  failed_idx : s.err = .transferFailed → ∃ n, seqLength s.errOp = some n ∧ s.errIdx.toNat < n
  /-- Every other ERR has ERR_IDX = 0 (R44, R158). -/
  other_idx : s.err ≠ .transferFailed → s.errIdx = 0
  /-- ERR = 0 has ERR_OP = 0 (R44). -/
  none_op : s.err = .none → s.errOp = 0

/-- The frames in an observer's record, oldest first, each with its transfer parameter (R18 (a)). -/
def framesOf : List Obs → List (Frame × Param)
  | [] => []
  | .presented f p :: rest => (f, p) :: framesOf rest
  | .answered _ :: rest => framesOf rest
  | .readBack _ _ _ :: rest => framesOf rest

/-- The environment's step that writes a command to CMD (R37). -/
def commandEvent (i : Instr) : Event := .hostWrite 0x0 32 (encode i)

/-- k steps of the machine, as the host's interface runs them. -/
def runSteps (k : Nat) (s : State) : Result := Host.Core.run Sys2Proof.core k s

/-- The block is idle with its link up: the state in which a valid command is accepted (R146, R147). -/
def Ready (s : State) : Prop := s.seq = .idle ∧ s.link = true

/-- A command that passes checks (2) to (4) of R146: a defined OP, zero reserved bits, operands in range (R108, R124). -/
def Accepted : Instr → Prop
  | .micSet resv _ => resv = 0
  | .eqSet resv band value => resv = 0 ∧ band.toNat ≤ 4 ∧ value.toNat ≤ 0x30
  | .colorSet resv red green blue => resv = 0 ∧ red.toNat ≤ 255 ∧ green.toNat ≤ 255 ∧ blue.toNat ≤ 255
  | .reserved0 _ => False
  | .reserved4to7 _ _ => False
  | .reserved8toF _ _ => False

/-- C(op, p) of 95_test_vectors.md: the Command Frame of a one-byte payload, byte by byte (R85, R91). -/
def cmdFrame (op p : Byte) : Frame :=
  [0x01, 0x00, op, 0x01, p, 0x00, 0x00, 0x00, 0x00, 0x00, 0x00, 0x00, 0x00, 0x00, 0x00, 0x00]

/-- CAL(b, r, i) on indices in range (R50). -/
def calAt (b : Fin 5) (r : Fin 3) (i : Fin 12) : Byte :=
  Config.cal ⟨b.val * 36 + r.val * 12 + i.val, by omega⟩

/-- The calibration row by the three cases of R110. -/
def rowIndex (value : Nat) : Fin 3 :=
  if value < 0x18 then 0 else if value = 0x18 then 1 else 2

/-- The EQ_SET rows of the device frame map (R90), frame by frame. -/
def eqSequence (b : Fin 5) (value : BitVec 8) : List (Frame × Param) :=
  ([cmdFrame (Config.opReg b) 0x18, cmdFrame Config.opPage 0x0D,
      cmdFrame Config.opPage (BitVec.ofNat 8 (b.val + 1))]
    ++ List.ofFn (fun i : Fin 12 => cmdFrame Config.opCal (calAt b (rowIndex value.toNat) i))
    ++ [cmdFrame Config.opUnk0 0x00, cmdFrame Config.opUnk1 0x04, cmdFrame (Config.opReg b) value,
      cmdFrame Config.opPage 0x0D]).map fun f => (f, Config.pDefault)

/-- RAW(k, 0..36) on an index in range (R51). -/
def rawAt (k : Fin 11) : Frame := List.ofFn fun i : Fin 37 => Config.raw ⟨k.val * 37 + i.val, by omega⟩

/-- RAW(3, 0..36) with the three colour bytes at RGB_OFF (R127). -/
def rawWithColor (red green blue : Byte) : Frame :=
  (((rawAt 3).set Config.rgbOff.val red).set (Config.rgbOff.val + 1) green).set (Config.rgbOff.val + 2) blue

/-- The COLOR_SET rows of the device frame map (R90), frame by frame. -/
def colorSequence (red green blue : Byte) : List (Frame × Param) :=
  [(rawAt 0, Config.pDefault), (rawAt 1, Config.pDefault), (rawAt 2, Config.pDefault),
    (rawWithColor red green blue, Config.pDefault), (rawAt 4, Config.pDefault), (rawAt 5, Config.pDefault),
    (rawAt 6, Config.pDefault), (rawAt 7, Config.pDefault), (rawAt 8, Config.pDefault), (rawAt 9, Config.pDefault),
    (rawAt 10, Config.pDefault), (List.ofFn Config.presave, Config.pPresave), (List.ofFn Config.save, Config.pSave)]

/-- The MIC_SET row of the device frame map (R90, R139). -/
def micSequence (en : BitVec 1) : List (Frame × Param) :=
  [(cmdFrame 0xF0 (if en = 1 then 0xF1 else 0x00), Config.pDefault)]

/-- The frames an accepted command presents when every answer is OK (R90, R159), written from the map itself and not by
the block's frame functions. -/
def expectedFrames : Instr → List (Frame × Param)
  | .micSet _ en => micSequence en
  | .eqSet _ band value => if h : band.toNat < 5 then eqSequence ⟨band.toNat, h⟩ value else []
  | .colorSet _ red green blue => colorSequence (red.setWidth 8) (green.setWidth 8) (blue.setWidth 8)
  | .reserved0 _ => []
  | .reserved4to7 _ _ => []
  | .reserved8toF _ _ => []

/-- The record of a command that has just been rejected by an idle block (R145, R146, R170). -/
def rejected (e : ErrorCode) (op : BitVec 4) (s : State) : State :=
  { s with done := false, ovr := false, err := e, errOp := op, errIdx := 0 }

end Sys2Proof.Machine
end

