-- ==== Sys2Proof/WellFormed.lean ====
section
/-! DEFINITION. Well-formed commands: a defined OP and zero reserved bits, the commands that have an assembly form of
their own (30_encoding.md rules R82, R93, R96, R98). Whether an operand's value is legal is not a matter of form: it is
checked at acceptance (R79), in Machine/Operands.lean. -/

namespace Sys2Proof

/-- A defined OP (R75, R81) with every reserved bit 0 (R82). -/
def Instr.wellFormed : Instr → Bool
  | .micSet resv _ => resv == 0
  | .eqSet resv _ _ => resv == 0
  | .colorSet resv _ _ _ => resv == 0
  | .reserved0 _ => false
  | .reserved4to7 _ _ => false
  | .reserved8toF _ _ => false

end Sys2Proof
end

