-- ==== Sys2Proof/Certificates/Slice0/Obligations.lean ====
section
/-! DEFINITION. The statements for the provers, each over every state and operand it does not restrict by name. -/

open Sys2Proof Sys2Proof.Machine

/-! ## Encoding -/

/-- 30_encoding.md, R98 (the spec's own inference from R76 to R78 and R80), and R81: decoding the word of a command gives the command back, with every
operand and every reserved bit at every value. -/
def Obligations.DecodeOfEncode : Prop :=
  ∀ i : Instr, decode (encode i) = i

/-- 30_encoding.md, R98 (the spec's own inference), for every 32-bit word, reserved ones too: encoding what was decoded gives the word. -/
def Obligations.EncodeOfDecode : Prop :=
  ∀ w : Word, encode (decode w) = w

/-- R80: the decoder is total and reads each format's fields from the bits the rule names; a word of another OP is
reserved and keeps its OP. -/
def Obligations.DecodeReadsFields : Prop :=
  ∀ w : Word,
    (w.extractLsb' 28 4 = 0x1 → decode w = .micSet (w.extractLsb' 1 27) (w.extractLsb' 0 1)) ∧
    (w.extractLsb' 28 4 = 0x2 →
      decode w = .eqSet (w.extractLsb' 11 17) (w.extractLsb' 8 3) (w.extractLsb' 0 8)) ∧
    (w.extractLsb' 28 4 = 0x3 →
      decode w = .colorSet (w.extractLsb' 27 1) (w.extractLsb' 18 9) (w.extractLsb' 9 9) (w.extractLsb' 0 9)) ∧
    (w.extractLsb' 28 4 ≠ 0x1 → w.extractLsb' 28 4 ≠ 0x2 → w.extractLsb' 28 4 ≠ 0x3 →
      (decode w).wellFormed = false ∧ expectedFrames (decode w) = [] ∧ (decode w).op = w.extractLsb' 28 4)

/-- R75 with spec/opcode_table.json: every word is of exactly one row of the table, the row of the command it decodes
to. -/
def Obligations.EveryWordHasOneRow : Prop :=
  ∀ (w : Word) (k : Nat) (r : OpcodeRow), opcodeRows[k]? = some r → (r.fits w = true ↔ (decode w).row = k)

/-- R97 (the spec's own inference from R76 to R78): the encoding examples, each assembled to its word and its word decoded to the command. -/
def Obligations.EncodingExamples : Prop :=
  (assemble (.micSet 1) = some 0x10000001 ∧ decode 0x10000001 = .micSet 0 1) ∧
  (assemble (.micSet 0) = some 0x10000000 ∧ decode 0x10000000 = .micSet 0 0) ∧
  (assemble (.eqSet 0 0x18) = some 0x20000018 ∧ decode 0x20000018 = .eqSet 0 0 0x18) ∧
  (assemble (.eqSet 2 0x20) = some 0x20000220 ∧ decode 0x20000220 = .eqSet 0 2 0x20) ∧
  (assemble (.eqSet 4 0x30) = some 0x20000430 ∧ decode 0x20000430 = .eqSet 0 4 0x30) ∧
  (assemble (.eqSet 4 0x31) = some 0x20000431 ∧ decode 0x20000431 = .eqSet 0 4 0x31) ∧
  (assemble (.eqSet 5 0x10) = some 0x20000510 ∧ decode 0x20000510 = .eqSet 0 5 0x10) ∧
  (assemble (.colorSet 0xDE 0xAD 0xFF) = some 0x33795AFF ∧ decode 0x33795AFF = .colorSet 0 0xDE 0xAD 0xFF) ∧
  (assemble (.colorSet 255 255 255) = some 0x33FDFEFF ∧ decode 0x33FDFEFF = .colorSet 0 255 255 255) ∧
  (assemble (.colorSet 256 0 0) = some 0x34000000 ∧ decode 0x34000000 = .colorSet 0 256 0 0) ∧
  (assemble (.colorSet 0 256 0) = some 0x30020000 ∧ decode 0x30020000 = .colorSet 0 0 256 0) ∧
  (assemble (.colorSet 0 0 256) = some 0x30000100 ∧ decode 0x30000100 = .colorSet 0 0 0 256)

/-- 30_encoding.md, R96 and R98 (the spec's own inference): the disassembler's line of any word assembles to that word;
it is the form of the word's OP with the word's fields where the OP is defined and the reserved bits are zero, and .word
of the whole word for every other. -/
def Obligations.AssembleOfDisassemble : Prop :=
  ∀ w : Word,
    assemble (disassemble w) = some w ∧
    (disassemble w =
      if w.extractLsb' 28 4 = 0x1 ∧ w.extractLsb' 1 27 = 0 then .micSet (w.extractLsb' 0 1).toNat
      else if w.extractLsb' 28 4 = 0x2 ∧ w.extractLsb' 11 17 = 0 then
        .eqSet (w.extractLsb' 8 3).toNat (w.extractLsb' 0 8).toNat
      else if w.extractLsb' 28 4 = 0x3 ∧ w.extractLsb' 27 1 = 0 then
        .colorSet (w.extractLsb' 18 9).toNat (w.extractLsb' 9 9).toNat (w.extractLsb' 0 9).toNat
      else .word w.toNat) ∧
    ((decode w).wellFormed = false ↔ disassemble w = .word w.toNat)

/-- R94: operands that fit their fields give the word of the OP, zero reserved bits and the operands in their fields, legal
or not; an operand that does not fit gives no word; and a word with a reserved bit set or a reserved OP comes from .word
alone. -/
def Obligations.AssemblerTakesWhatFits : Prop :=
  (∀ en, assemble (.micSet en) = if en < 2 then some (0x1#4 ++ 0#27 ++ BitVec.ofNat 1 en) else none) ∧
  (∀ band value, assemble (.eqSet band value) =
    if band < 8 ∧ value < 256 then some (0x2#4 ++ 0#17 ++ BitVec.ofNat 3 band ++ BitVec.ofNat 8 value) else none) ∧
  (∀ red green blue, assemble (.colorSet red green blue) =
    if red < 512 ∧ green < 512 ∧ blue < 512 then
      some (0x3#4 ++ 0#1 ++ BitVec.ofNat 9 red ++ BitVec.ofNat 9 green ++ BitVec.ofNat 9 blue)
    else none) ∧
  (∀ n, assemble (.word n) = if n < 2 ^ 32 then some (BitVec.ofNat 32 n) else none) ∧
  assemble (.eqSet 5 0x10) = some 0x20000510 ∧
  ∀ line w, assemble line = some w → (decode w).wellFormed = false → line = .word w.toNat

/-- R95: the pseudo-instructions assemble as their expansions. -/
def Obligations.PseudoInstructionsExpand : Prop :=
  assemble .micOn = assemble (.micSet 1) ∧ assemble .micOn = some 0x10000001 ∧
  assemble .micOff = assemble (.micSet 0) ∧ assemble .micOff = some 0x10000000 ∧
  ∀ band, assemble (.eqFlat band) = assemble (.eqSet band 0x18) ∧
    (band < 8 → assemble (.eqFlat band) = some (0x20000018 ||| (BitVec.ofNat 32 band <<< 8)))

/-! ## Frames -/

/-- R101 and R102: what the Frame Encoder gives for every opcode and payload. -/
def Obligations.EncoderFrameLayout : Prop :=
  ∀ (op : Byte) (payload : List Byte),
    (payload.length ≤ 12 → ∃ f, enc op payload = .ok f ∧ f.length = 16 ∧
      f[0]? = some 0x01 ∧ f[1]? = some 0x00 ∧ f[2]? = some op ∧ f[3]? = some (BitVec.ofNat 8 payload.length) ∧
      (∀ i, i < payload.length → f[4 + i]? = payload[i]?) ∧
      (∀ i, 4 + payload.length ≤ i → i < 16 → f[i]? = some 0x00)) ∧
    (12 < payload.length → enc op payload = .error .encFault)

/-- 00_scope.md, R10: the constraints a model may assume of the OPEN parameters hold of the model's. -/
def Obligations.OpenParametersKeepConstraints : Prop :=
  (∀ b b' : Fin 5, Config.opReg b = Config.opReg b' → b = b') ∧
  Config.pDefault ≠ Config.pPresave ∧ Config.pDefault ≠ Config.pSave ∧ Config.pPresave ≠ Config.pSave ∧
  Config.rgbOff.val + 3 ≤ 37

/-- R110: the row is 0 below 0x18, 1 at it and 2 above it. -/
def Obligations.RowIsStepFunctionOfValue : Prop :=
  ∀ value : BitVec 8,
    (value.toNat < 0x18 → rowOf value = 0) ∧ (value.toNat = 0x18 → rowOf value = 1) ∧
    (0x18 < value.toNat → rowOf value = 2)

/-- R127 and R132: byte i of COLOR frame 3 is the latched colour at the three offsets and the table's byte elsewhere. -/
def Obligations.ColorFrameThreeSubstitutesColor : Prop :=
  ∀ s : State, ∃ f, colorFrame s 3 = .ok (f, Config.pDefault) ∧ f.length = 37 ∧
    ∀ i : Fin 37, f[i.val]? = some (
      if i.val = Config.rgbOff.val then s.red
      else if i.val = Config.rgbOff.val + 1 then s.green
      else if i.val = Config.rgbOff.val + 2 then s.blue
      else Config.raw ⟨3 * 37 + i.val, by omega⟩)

/-- R132: between two colour sequences only the three colour bytes of frame 3 can differ. -/
def Obligations.OnlyColorBytesDependOnOperands : Prop :=
  ∀ (s s' : State) (k : Nat) (f f' : Frame) (p p' : Param),
    colorFrame s k = .ok (f, p) → colorFrame s' k = .ok (f', p') →
    p = p' ∧ f.length = f'.length ∧
    ∀ i, f[i]? ≠ f'[i]? → k = 3 ∧ Config.rgbOff.val ≤ i ∧ i ≤ Config.rgbOff.val + 2

/-- 44_sequencer.md, R149 with R119 and R131 (the spec's own inferences), R139 and the map of R90: while the latches hold an accepted command's operands,
FRAME gives the map's frame for each index of the sequence, and a fault for every other. -/
def Obligations.FrameFollowsTheMap : Prop :=
  ∀ (s : State) (k : Nat),
    (frame s 0x1 k = match (micSequence s.en)[k]? with
      | some fp => .ok fp
      | none => .error .frameOutOfRange) ∧
    (∀ h : s.band.toNat < 5, s.row = rowOf s.value →
      frame s 0x2 k = match (eqSequence ⟨s.band.toNat, h⟩ s.value)[k]? with
        | some fp => .ok fp
        | none => .error .frameOutOfRange) ∧
    (frame s 0x3 k = match (colorSequence s.red s.green s.blue)[k]? with
      | some fp => .ok fp
      | none => .error .frameOutOfRange)

/-- R150: what Present writes, and that it writes nothing else of the block. -/
def Obligations.PresentFillsTheBuffer : Prop :=
  ∀ (f : Frame) (p : Param) (s : State), f.length = 2 ∨ f.length = 16 ∨ f.length = 37 ∨ f.length = 39 →
    (∀ (i : Nat) (h : i < 39), (present f p s).fb[i] = if i < f.length then f.getD i 0x00 else 0x00) ∧
    (present f p s).flen.toNat = f.length ∧
    present f p s =
      { s with
        fb := (present f p s).fb, flen := (present f p s).flen, fparam := p, req := true,
        log := s.log ++ [.presented f p] } ∧
    outstanding (present f p s) = some (f, p)

/-! ## Commands -/

/-- R139 with R138 and R147: a MIC_SET written to a ready block presents its one frame. The whole next state is given, so
everything not named is as before. -/
def Obligations.MicSetStartsItsFrame : Prop :=
  ∀ (s : State) (en : BitVec 1), Ready s →
    exec (.micSet 0 en) s = .next
      { s with
        done := false, ovr := false, err := .none, errOp := 0, errIdx := 0,
        en := en, opr := 0x1, idx := 0, seq := .busy,
        fb := fitFrame (cmdFrame 0xF0 (if en = 1 then 0xF1 else 0x00)), flen := 16, fparam := Config.pDefault,
        req := true,
        log := s.log ++ [.presented (cmdFrame 0xF0 (if en = 1 then 0xF1 else 0x00)) Config.pDefault] }

/-- R113 and R110 with R107 and R147: a legal EQ_SET written to a ready block latches its operands and the row, and
presents frame 0. The whole next state is given. -/
def Obligations.EqSetStartsItsSequence : Prop :=
  ∀ (s : State) (band : BitVec 3) (value : BitVec 8) (hb : band.toNat ≤ 4), value.toNat ≤ 0x30 → Ready s →
    exec (.eqSet 0 band value) s = .next
      { s with
        done := false, ovr := false, err := .none, errOp := 0, errIdx := 0,
        band := band, value := value,
        row := if value.toNat < 0x18 then 0 else if value.toNat = 0x18 then 1 else 2,
        opr := 0x2, idx := 0, seq := .busy,
        fb := fitFrame (cmdFrame (Config.opReg ⟨band.toNat, by omega⟩) 0x18), flen := 16,
        fparam := Config.pDefault, req := true,
        log := s.log ++ [.presented (cmdFrame (Config.opReg ⟨band.toNat, by omega⟩) 0x18) Config.pDefault] }

/-- 42_color.md, R123 with R147: a legal COLOR_SET written to a ready block latches its components and presents Raw
Frame 0. The whole next state is given. -/
def Obligations.ColorSetStartsItsSequence : Prop :=
  ∀ (s : State) (red green blue : BitVec 9), red.toNat ≤ 255 → green.toNat ≤ 255 → blue.toNat ≤ 255 → Ready s →
    exec (.colorSet 0 red green blue) s = .next
      { s with
        done := false, ovr := false, err := .none, errOp := 0, errIdx := 0,
        red := BitVec.ofNat 8 red.toNat, green := BitVec.ofNat 8 green.toNat, blue := BitVec.ofNat 8 blue.toNat,
        opr := 0x3, idx := 0, seq := .busy,
        fb := fitFrame (rawAt 0), flen := 37, fparam := Config.pDefault, req := true,
        log := s.log ++ [.presented (rawAt 0) Config.pDefault] }

/-- R81: a reserved OP written to a ready block completes with the INVALID_ARGUMENT record, ERR_OP the word's OP, and
nothing else of the block changes: no frame is sent. -/
def Obligations.ReservedOpIsRecorded : Prop :=
  ∀ s : State, Ready s →
    (∀ rest, exec (.reserved0 rest) s = .next (rejected .invalidArgument 0x0 s)) ∧
    (∀ sub rest, exec (.reserved4to7 sub rest) s = .next (rejected .invalidArgument (0x1#2 ++ sub) s)) ∧
    (∀ sub rest, exec (.reserved8toF sub rest) s = .next (rejected .invalidArgument (0x1#1 ++ sub) s)) ∧
    (∀ w : Word, w.extractLsb' 28 4 = 0x0 ∨ 0x4 ≤ (w.extractLsb' 28 4).toNat →
      exec (decode w) s = .next (rejected .invalidArgument (w.extractLsb' 28 4) s))

/-- R82: a command with a nonzero reserved bit, written to a ready block, leaves only the INVALID_ARGUMENT record; the
reserved bits as the rule numbers them in the word, and as the commands hold them. -/
def Obligations.ReservedBitIsRejected : Prop :=
  ∀ s : State, Ready s →
    (∀ resv en, resv ≠ 0 → exec (.micSet resv en) s = .next (rejected .invalidArgument 0x1 s)) ∧
    (∀ resv band value, resv ≠ 0 → exec (.eqSet resv band value) s = .next (rejected .invalidArgument 0x2 s)) ∧
    (∀ resv red green blue, resv ≠ 0 →
      exec (.colorSet resv red green blue) s = .next (rejected .invalidArgument 0x3 s)) ∧
    ∀ w : Word,
      (w.extractLsb' 28 4 = 0x1 → w.extractLsb' 1 27 ≠ 0 →
        exec (decode w) s = .next (rejected .invalidArgument 0x1 s)) ∧
      (w.extractLsb' 28 4 = 0x2 → w.extractLsb' 11 17 ≠ 0 →
        exec (decode w) s = .next (rejected .invalidArgument 0x2 s)) ∧
      (w.extractLsb' 28 4 = 0x3 → w.extractLsb' 27 1 ≠ 0 →
        exec (decode w) s = .next (rejected .invalidArgument 0x3 s))

/-- R109 and R125 with R108 and R124: an operand out of range, written to a ready block, leaves only the
INVALID_ARGUMENT record. -/
def Obligations.OperandOutOfRangeIsRejected : Prop :=
  ∀ s : State, Ready s →
    (∀ band value, 4 < band.toNat ∨ 0x30 < value.toNat →
      exec (.eqSet 0 band value) s = .next (rejected .invalidArgument 0x2 s)) ∧
    (∀ red green blue, 255 < red.toNat ∨ 255 < green.toNat ∨ 255 < blue.toNat →
      exec (.colorSet 0 red green blue) s = .next (rejected .invalidArgument 0x3 s))

/-- R165: INVALID_ARGUMENT is raised on a ready block in exactly the cases of the rule, and then no frame is presented. -/
def Obligations.InvalidArgumentExactlyWhenInvalid : Prop :=
  ∀ (i : Instr) (s t : State), Ready s → exec i s = .next t →
    errorCode .invalidArgument = 1 ∧ (t.err = .invalidArgument ↔ ¬ Accepted i) ∧
    (t.err = .invalidArgument → framesOf t.log = framesOf s.log ∧ t.seq = .idle ∧ t.req = s.req)

/-- R164: with LINK = 0 an idle block answers every command with the LINK_DOWN record, whatever its OP and fields. -/
def Obligations.LinkDownRejectsEveryCommand : Prop :=
  ∀ (i : Instr) (s : State), s.seq = .idle → s.link = false →
    exec i s = .next (rejected .linkDown ((encode i).extractLsb' 28 4) s) ∧
    errorCode (rejected .linkDown ((encode i).extractLsb' 28 4) s).err = 3

/-- R144: a command written while SEQ = BUSY sets OVR and changes nothing else. -/
def Obligations.BusyWriteIsDropped : Prop :=
  ∀ (i : Instr) (s : State), s.seq = .busy → exec i s = .next { s with ovr := true }

/-- 44_sequencer.md, R146 and R147: what a command leaves unchanged. No command changes LINK or the inputs; one that is
dropped or rejected changes no latch, not OPR, IDX, SEQ, the frame buffer, REQ or the observer's record; an accepted one
changes no latch of another command. -/
def Obligations.CommandFrame : Prop :=
  ∀ (i : Instr) (s t : State), exec i s = .next t →
    t.link = s.link ∧ t.inputs = s.inputs ∧
    (¬ (Ready s ∧ Accepted i) →
      t = { s with done := t.done, ovr := t.ovr, err := t.err, errOp := t.errOp, errIdx := t.errIdx }) ∧
    (s.seq = .busy → t = { s with ovr := t.ovr }) ∧
    (∀ resv en, i = .micSet resv en →
      t.band = s.band ∧ t.value = s.value ∧ t.row = s.row ∧ t.red = s.red ∧ t.green = s.green ∧ t.blue = s.blue) ∧
    (∀ resv band value, i = .eqSet resv band value →
      t.red = s.red ∧ t.green = s.green ∧ t.blue = s.blue ∧ t.en = s.en) ∧
    (∀ resv red green blue, i = .colorSet resv red green blue →
      t.band = s.band ∧ t.value = s.value ∧ t.row = s.row ∧ t.en = s.en)

/-! ## Steps -/

/-- R37 and R143: when the environment's next step writes a word to CMD, the machine's step is exec of the command the word
decodes to, after that step has left the list of inputs. -/
def Obligations.StepRunsTheDecodedCommand : Prop :=
  ∀ (s : State) (w : Word) (rest : List Event), s.inputs = .hostWrite 0x0 32 w :: rest →
    step s = exec (decode w) { s with inputs := rest }

/-- 44_sequencer.md, R155 and R187, with log entry 6 (the model's choice of what a step without input is): a block that
nothing reaches waits. -/
def Obligations.NoInputKeepsTheState : Prop :=
  ∀ s : State, s.inputs = [] → step s = .next s

/-- R155 and R34, with log entry 6 (what a step without input is): however many steps pass, while no answer and no reset comes the block stays BUSY with its frame held. -/
def Obligations.UnansweredFrameIsHeld : Prop :=
  ∀ (k : Nat) (s : State), s.seq = .busy → (∀ e ∈ s.inputs, e ≠ .reset ∧ ∀ r, e ≠ .respond r) →
    ∃ t, runSteps k s = .next t ∧ t.seq = .busy ∧ t.idx = s.idx ∧ t.opr = s.opr ∧ t.fb = s.fb ∧ t.flen = s.flen ∧
      t.fparam = s.fparam ∧ t.req = s.req ∧ t.done = s.done ∧ t.err = s.err ∧ framesOf t.log = framesOf s.log

/-- R152: an OK answer before the last frame advances IDX by 1 and presents the next frame. The whole next state is
given. -/
def Obligations.OkAnswerPresentsTheNextFrame : Prop :=
  ∀ (s : State) (rest : List Event) (n : Nat), Invariant s → s.req = true → s.inputs = .respond .ok :: rest →
    seqLength s.opr = some n → s.idx.toNat < n - 1 →
    ∃ f p, frame s s.opr (s.idx.toNat + 1) = .ok (f, p) ∧
      step s = .next
        { s with
          inputs := rest, idx := s.idx + 1, fb := fitFrame f, flen := BitVec.ofNat 6 f.length, fparam := p,
          log := s.log ++ [.answered .ok, .presented f p] }

/-- R153: an OK answer to the last frame completes the sequence. The whole next state is given. -/
def Obligations.OkAnswerToTheLastFrameCompletes : Prop :=
  ∀ (s : State) (rest : List Event) (n : Nat), s.req = true → s.inputs = .respond .ok :: rest →
    seqLength s.opr = some n → s.idx.toNat = n - 1 →
    step s = .next
      { s with
        inputs := rest, done := true, req := false, seq := .idle, idx := 0, log := s.log ++ [.answered .ok] }

/-- R154 and R166: a FAIL answer abandons the sequence with TRANSFER_FAILED, OPR and IDX, and DONE stays 0. The whole next
state is given: no frame is presented. -/
def Obligations.FailAnswerAbandons : Prop :=
  ∀ (s : State) (rest : List Event), Invariant s → s.req = true → s.inputs = .respond .fail :: rest →
    s.done = false ∧
    step s = .next
      { s with
        inputs := rest, err := .transferFailed, errOp := s.opr, errIdx := s.idx, req := false, seq := .idle, idx := 0,
        log := s.log ++ [.answered .fail] }

/-- 44_sequencer.md, R151 and 70_reset_and_hazards.md, R186, with log entry 7: an answer without an outstanding frame is
discarded. -/
def Obligations.AnswerWithoutRequestIsDiscarded : Prop :=
  ∀ (s : State) (r : Response) (rest : List Event), s.req = false → s.inputs = .respond r :: rest →
    step s = .next { s with inputs := rest }

/-- R38: a 32-bit read of STATUS returns the fields of the table in their bits, the reserved bits 0, and changes nothing
of the block; a write to it is ignored. -/
def Obligations.StatusReadReturnsTheFields : Prop :=
  (∀ (s : State) (rest : List Event), s.inputs = .hostRead 0x4 32 :: rest →
    ∃ w : Word, step s = .next { s with inputs := rest, log := s.log ++ [.readBack 0x4 32 w] } ∧
      (w.getLsbD 0 = true ↔ s.seq = .busy) ∧ w.getLsbD 1 = s.done ∧ w.getLsbD 2 = s.ovr ∧ w.getLsbD 3 = s.link ∧
      w.extractLsb' 4 4 = errorCode s.err ∧ w.extractLsb' 8 4 = s.errOp ∧ w.extractLsb' 12 5 = s.errIdx ∧
      w.extractLsb' 17 3 = 0 ∧ w.extractLsb' 20 4 = s.opr ∧ w.extractLsb' 24 5 = s.idx ∧ w.extractLsb' 29 3 = 0) ∧
  (∀ (s : State) (w : Word) (rest : List Event), s.inputs = .hostWrite 0x4 32 w :: rest →
    step s = .next { s with inputs := rest })

/-- R57: every host write but a 32-bit one at 0x0 is ignored, and every host read but a 32-bit one at 0x4 returns 0. -/
def Obligations.OtherHostAccessesDoNothing : Prop :=
  ∀ (s : State) (o n : Nat) (rest : List Event),
    (∀ w, s.inputs = .hostWrite o n w :: rest → ¬ (o = 0x0 ∧ n = 32) → step s = .next { s with inputs := rest }) ∧
    (s.inputs = .hostRead o n :: rest → ¬ (o = 0x4 ∧ n = 32) →
      step s = .next { s with inputs := rest, log := s.log ++ [.readBack o n 0x00000000] })

/-- R35 and 95_test_vectors.md: LINK takes the level the Transport drives, and nothing else changes, a sequence in
progress included. -/
def Obligations.LinkChangesAlone : Prop :=
  ∀ (s : State) (up : Bool) (rest : List Event), s.inputs = .link up :: rest →
    step s = .next { s with inputs := rest, link := up }

/-- R185: reset, from any state, puts every piece of state to its reset value and leaves the LINK input as it is. -/
def Obligations.ResetFromAnyState : Prop :=
  ∀ (s : State) (rest : List Event), s.inputs = .reset :: rest →
    step s = .next
      { seq := .idle, idx := 0, opr := 0x0, band := 0, value := 0, row := 0, red := 0, green := 0, blue := 0, en := 0,
        fb := Vector.replicate 39 0x00, flen := 0, fparam := 0x0000, req := false, done := false, ovr := false,
        err := .none, errOp := 0, errIdx := 0, link := s.link, inputs := rest, log := s.log }

/-- R186, with log entry 7 (an answer without an outstanding frame is taken off the list): after a reset no error is recorded, and a Transport answer that comes then is discarded. -/
def Obligations.AnswerAfterResetIsDiscarded : Prop :=
  ∀ (s : State) (r : Response) (rest : List Event), s.inputs = .reset :: .respond r :: rest →
    ∃ t, step s = .next t ∧ t.err = .none ∧ t.done = false ∧ t.req = false ∧ t.seq = .idle ∧
      step t = .next { t with inputs := rest }

/-- R40: DONE is set by an OK answer to the last frame, cleared by a CMD write while idle, and changed by nothing else but
reset (R185). -/
def Obligations.DoneChangesOnlyAsStated : Prop :=
  ∀ s t : State, step s = .next t → t.done ≠ s.done →
    (t.done = true ∧ ∃ rest n, s.inputs = .respond .ok :: rest ∧ s.req = true ∧ seqLength s.opr = some n ∧
      s.idx.toNat = n - 1) ∨
    (t.done = false ∧ s.seq = .idle ∧ ∃ w rest, s.inputs = .hostWrite 0x0 32 w :: rest) ∨
    (t.done = false ∧ ∃ rest, s.inputs = .reset :: rest)

/-- R41: OVR is set by a CMD write while busy, cleared by a CMD write while idle, and changed by nothing else but reset
(R185). -/
def Obligations.OvrChangesOnlyAsStated : Prop :=
  ∀ s t : State, step s = .next t → t.ovr ≠ s.ovr →
    (t.ovr = true ∧ s.seq = .busy ∧ ∃ w rest, s.inputs = .hostWrite 0x0 32 w :: rest) ∨
    (t.ovr = false ∧ s.seq = .idle ∧ ∃ w rest, s.inputs = .hostWrite 0x0 32 w :: rest) ∨
    (t.ovr = false ∧ ∃ rest, s.inputs = .reset :: rest)

/-- 60_exceptions.md, R170 with R145 and R185: the error record is written only by a CMD write while idle, a FAIL answer
to an outstanding frame, or reset. -/
def Obligations.ErrorRecordChangesOnlyAsStated : Prop :=
  ∀ s t : State, step s = .next t → (t.err ≠ s.err ∨ t.errOp ≠ s.errOp ∨ t.errIdx ≠ s.errIdx) →
    (s.seq = .idle ∧ ∃ w rest, s.inputs = .hostWrite 0x0 32 w :: rest) ∨
    (s.req = true ∧ t.err = .transferFailed ∧ ∃ rest, s.inputs = .respond .fail :: rest) ∨
    (∃ rest, s.inputs = .reset :: rest)

/-- 10_state.md, R22 and R25: a latch or OPR changes only when a command is accepted, or at reset (R185). -/
def Obligations.LatchesChangeOnlyAtAcceptance : Prop :=
  ∀ s t : State, step s = .next t →
    (t.opr ≠ s.opr ∨ t.band ≠ s.band ∨ t.value ≠ s.value ∨ t.row ≠ s.row ∨ t.red ≠ s.red ∨ t.green ≠ s.green ∨
      t.blue ≠ s.blue ∨ t.en ≠ s.en) →
    (Ready s ∧ ∃ w rest, s.inputs = .hostWrite 0x0 32 w :: rest ∧ Accepted (decode w)) ∨
    (∃ rest, s.inputs = .reset :: rest)

/-! ## The machine -/

/-- R48: the state after reset, at the values of the rule's table. -/
def Obligations.ResetStateValues : Prop :=
  State.reset.seq = .idle ∧ State.reset.idx = 0 ∧ State.reset.opr = 0x0 ∧
  State.reset.band = 0 ∧ State.reset.value = 0 ∧ State.reset.row = 0 ∧
  State.reset.red = 0 ∧ State.reset.green = 0 ∧ State.reset.blue = 0 ∧ State.reset.en = 0 ∧
  (∀ (i : Nat) (h : i < 39), State.reset.fb[i] = 0x00) ∧ State.reset.flen = 0 ∧ State.reset.fparam = 0x0000 ∧
  State.reset.req = false ∧ State.reset.done = false ∧ State.reset.ovr = false ∧
  errorCode State.reset.err = 0 ∧ State.reset.errOp = 0 ∧ State.reset.errIdx = 0

/-- 44_sequencer.md, R158 (the spec's own inference): the invariant holds at reset. -/
def Obligations.InvariantAtReset : Prop := Invariant State.reset

/-- 44_sequencer.md, R158 (the spec's own inference): every step keeps the invariant, from every state that has it and whatever the environment
does. -/
def Obligations.EveryStepKeepsTheInvariant : Prop :=
  ∀ s t : State, Invariant s → step s = .next t → Invariant t

/-- 40_frame_encoder.md R105, 44_sequencer.md R149, 60_exceptions.md R168 (the spec's own inferences; log entry 10): from a state with the invariant, no step
faults or is refused, whatever the environment does; ENC_FAULT and the other faults are unreachable. -/
def Obligations.NoStepFaults : Prop :=
  ∀ s : State, Invariant s → ∃ t, step s = .next t

/-- R32 and R33: the lengths and transfer parameters while REQ = 1. -/
def Obligations.PresentedLengthAndParameter : Prop :=
  ∀ s : State, Invariant s → s.req = true →
    (s.flen = 16 ∨ s.flen = 37 ∨ s.flen = 39 ∨ s.flen = 2) ∧
    (s.fparam = Config.pDefault ∨ s.fparam = Config.pPresave ∨ s.fparam = Config.pSave)

/-- R90: every frame the block holds for the Transport is in the device frame map, at the row of the command and index
that STATUS shows. -/
def Obligations.EveryPresentedFrameIsInTheMap : Prop :=
  ∀ s : State, Invariant s → s.req = true →
    ∃ i, Accepted i ∧ i.op = s.opr ∧ s.idx.toNat < (expectedFrames i).length ∧
      outstanding s = (expectedFrames i)[s.idx.toNat]?

/-- R91 (the spec's own inference from R90): every Command Frame held has one payload byte and zeros after it, and only COLOR frames 11 and 12 are on another
parameter than P_DEFAULT. -/
def Obligations.CommandFramesHaveOneByte : Prop :=
  ∀ s : State, Invariant s → s.req = true →
    (s.opr = 0x1 ∨ s.opr = 0x2 →
      s.fb[0] = 0x01 ∧ s.fb[1] = 0x00 ∧ s.fb[3] = 0x01 ∧ s.flen = 16 ∧
      ∀ (i : Nat) (h : i < 39), 5 ≤ i → s.fb[i] = 0x00) ∧
    (s.fparam ≠ Config.pDefault ↔ s.opr = 0x3 ∧ (s.idx = 11 ∨ s.idx = 12))

/-- 30_encoding.md R92 with R58 and R59: the control transfer the Transport makes of an outstanding frame. The request type
0x21 and the length are the spec's general knowledge (log entry 13). -/
def Obligations.ControlTransferCarriesTheFrame : Prop :=
  ∀ s : State, Invariant s → s.req = true →
    ∃ f p, frame s s.opr s.idx.toNat = .ok (f, p) ∧
      controlTransfer s = some
        { requestType := 0x21, request := Config.requestCode, value := p, index := Config.iface, length := f.length,
          data := f }

/-- 44_sequencer.md, R159 (the spec's own inference) with R112, R126, R137: a command accepted by a ready block, every answer OK, presents the frames
of its row of the map, all of them, in order, and ends idle with DONE = 1. -/
def Obligations.AnsweredCommandPresentsItsSequence : Prop :=
  ∀ (i : Instr) (s : State) (rest : List Event), Ready s → Accepted i →
    s.inputs = commandEvent i :: (List.replicate (expectedFrames i).length (.respond .ok) ++ rest) →
    ∃ t, runSteps ((expectedFrames i).length + 1) s = .next t ∧
      framesOf t.log = framesOf s.log ++ expectedFrames i ∧
      t.seq = .idle ∧ t.req = false ∧ t.done = true ∧ t.ovr = false ∧ t.err = .none ∧ t.opr = i.op ∧ t.inputs = rest

/-- 44_sequencer.md, R159 and R173 (the spec's own inferences) with R154: a command accepted by a ready block whose frame m gets FAIL after m answers OK
presents exactly frames 0 to m, and ends idle with TRANSFER_FAILED at m. -/
def Obligations.FailedCommandPresentsAPrefix : Prop :=
  ∀ (i : Instr) (s : State) (m : Nat) (rest : List Event), Ready s → Accepted i → m < (expectedFrames i).length →
    s.inputs = commandEvent i :: (List.replicate m (.respond .ok) ++ .respond .fail :: rest) →
    ∃ t, runSteps (m + 2) s = .next t ∧
      framesOf t.log = framesOf s.log ++ (expectedFrames i).take (m + 1) ∧
      t.seq = .idle ∧ t.req = false ∧ t.done = false ∧ t.err = .transferFailed ∧ t.errOp = i.op ∧
      t.errIdx = BitVec.ofNat 5 m ∧ t.inputs = rest

/-- 44_sequencer.md, R161 (the spec's own inference): two ready blocks, whatever earlier commands left in them, that get the same command and the same
answers present the same frames and end with the same STATUS fields. -/
def Obligations.SequencesDependOnTheCommandAlone : Prop :=
  ∀ (i : Instr) (answers : List Response) (s s' t t' : State), Ready s → Ready s' → Accepted i →
    s.inputs = commandEvent i :: answers.map .respond → s'.inputs = commandEvent i :: answers.map .respond →
    runSteps (answers.length + 1) s = .next t → runSteps (answers.length + 1) s' = .next t' →
    (∃ fs, framesOf t.log = framesOf s.log ++ fs ∧ framesOf t'.log = framesOf s'.log ++ fs) ∧
    statusWord t = statusWord t'

/-- R46 (the spec's own inference from R112 and R126): the phase of each frame. -/
def Obligations.PhaseOfEachFrame : Prop :=
  ∀ k : BitVec 5,
    (k.toNat ≤ 2 → phase 0x2 k = some .prologue) ∧
    (3 ≤ k.toNat → k.toNat ≤ 14 → phase 0x2 k = some .calibration) ∧
    (15 ≤ k.toNat → k.toNat ≤ 18 → phase 0x2 k = some .epilogue) ∧
    (k.toNat ≤ 10 → phase 0x3 k = some .colorDefault) ∧
    (k.toNat = 11 → phase 0x3 k = some .preSave) ∧
    (k.toNat = 12 → phase 0x3 k = some .save) ∧
    (k.toNat = 0 → phase 0x1 k = some .mic)
end

