-- ==== Sys2Proof/Laws/Frames.lean ====
section
/-! SUPPORT. What each frame function can answer: one lemma a function, for the frame encoder, the three sequences and
FRAME, and on what a frame depends. -/

namespace Sys2Proof.Machine

/-- A payload that fits gives its frame (R99). -/
theorem enc_of_le {op : Byte} {payload : List Byte} (h : payload.length ≤ 12) :
    enc op payload = .ok ([0x01, 0x00, op, BitVec.ofNat 8 payload.length] ++ payload
      ++ List.replicate (12 - payload.length) 0x00) := by
  simp [enc, maxPayload, frameMarker, frameReserved, h]

/-- A payload that does not fit gives ENC_FAULT (R101). -/
theorem enc_of_gt {op : Byte} {payload : List Byte} (h : 12 < payload.length) :
    enc op payload = .error .encFault := by
  simp [enc, maxPayload, Nat.not_le.mpr h]

/-- A one-byte payload (R91, R105). -/
@[simp] theorem enc_one (op p : Byte) : enc op [p] = .ok (cmdFrame op p) := by
  simp [enc, maxPayload, frameMarker, frameReserved, cmdFrame, List.replicate]

@[simp] theorem cmdFrame_length (op p : Byte) : (cmdFrame op p).length = 16 := rfl

theorem opReg_of_lt {b : BitVec 3} (h : b.toNat < 5) : opReg b = .ok (Config.opReg ⟨b.toNat, h⟩) := by
  simp [opReg, h]

theorem calByte_of_lt {b : BitVec 3} {r : BitVec 2} {i : Nat} (hb : b.toNat < 5) (hr : r.toNat < 3) (hi : i < 12) :
    calByte b r i = .ok (calAt ⟨b.toNat, hb⟩ ⟨r.toNat, hr⟩ ⟨i, hi⟩) := by
  simp [calByte, calAt, hb, hr, hi]

@[simp] theorem rawFrame_eq (k : Fin 11) : rawFrame k = rawAt k := rfl

@[simp] theorem rawAt_length (k : Fin 11) : (rawAt k).length = 37 := by simp [rawAt]

/-- N is defined for the three commands and no other OP (R148). -/
theorem seqLength_eq_some {op : BitVec 4} {n : Nat} :
    seqLength op = some n ↔ (op = 0x1 ∧ n = 1) ∨ (op = 0x2 ∧ n = 19) ∨ (op = 0x3 ∧ n = 13) := by
  unfold seqLength opMicSet opEqSet opColorSet
  split
  · subst_vars; simp [eq_comm]
  · split
    · subst_vars; simp [eq_comm]
    · split
      · subst_vars; simp [eq_comm]
      · simp_all

/-- FRAME reads the latches and nothing else of the state (R161). -/
theorem frame_congr {s t : State} (hb : t.band = s.band) (hv : t.value = s.value) (hr : t.row = s.row)
    (hred : t.red = s.red) (hg : t.green = s.green) (hblue : t.blue = s.blue) (he : t.en = s.en)
    (op : BitVec 4) (k : Nat) : frame t op k = frame s op k := by
  have hm : mux3 t = mux3 s := by funext i; simp [mux3, hred, hg, hblue]
  simp [frame, micFrame, eqFrame, colorFrame, hb, hv, hr, he, hm]

/-- Every index of a sequence has a frame, while BAND and ROW are in range (R149). -/
theorem frame_defined {s : State} {op : BitVec 4} {n k : Nat} (hb : s.band.toNat ≤ 4) (hr : s.row.toNat ≤ 2)
    (hn : seqLength op = some n) (hk : k < n) : ∃ f p, frame s op k = .ok (f, p) := by
  rcases seqLength_eq_some.mp hn with ⟨rfl, rfl⟩ | ⟨rfl, rfl⟩ | ⟨rfl, rfl⟩
  · obtain rfl : k = 0 := by omega
    exact ⟨_, _, by simp [frame, opMicSet, micFrame, Except.map]; exact ⟨rfl, rfl⟩⟩
  · have hb' : s.band.toNat < 5 := by omega
    have hr' : s.row.toNat < 3 := by omega
    have : ∃ f, eqFrame s k = .ok f := by
      unfold eqFrame
      repeat' split
      all_goals first
        | omega
        | (rw [calByte_of_lt hb' hr' (by omega)]; simp [Except.bind])
        | simp [opReg_of_lt hb', Except.bind]
    obtain ⟨f, hf⟩ := this
    exact ⟨f, _, by simp [frame, opMicSet, opEqSet, hf, Except.map]; rfl⟩
  · simp only [frame, opMicSet, opEqSet, opColorSet, colorFrame]
    repeat' split
    all_goals first
      | omega
      | exact ⟨_, _, rfl⟩
      | simp_all

/-- The lengths a frame can have (R32). -/
theorem frame_length {s : State} {op : BitVec 4} {k : Nat} {f : Frame} {p : Param} (h : frame s op k = .ok (f, p)) :
    f.length = 16 ∨ f.length = 37 ∨ f.length = 39 ∨ f.length = 2 := by
  unfold frame at h
  split at h
  · unfold micFrame at h
    split at h <;> simp [Except.map] at h
    simp [← h.1]
  · split at h
    · refine .inl ?_
      unfold eqFrame opReg calByte at h
      repeat' split at h
      all_goals simp [Except.map, Except.bind] at h
      all_goals simp [← h.1]
    · split at h
      · unfold colorFrame at h
        repeat' split at h
        all_goals simp at h
        all_goals simp [← h.1, presaveFrame, saveFrame]
      · simp at h

end Sys2Proof.Machine
end

