-- ==== Sys2Proof/Laws/State.lean ====
section
/-! SUPPORT. Each named update of State, field by field: one lemma a field, true by unfolding, so that no later proof
unfolds a record update. -/

namespace Sys2Proof.Machine

section
variable (f : Frame) (p : Param) (s : State)
@[simp] theorem present_seq : (present f p s).seq = s.seq := rfl
@[simp] theorem present_idx : (present f p s).idx = s.idx := rfl
@[simp] theorem present_opr : (present f p s).opr = s.opr := rfl
@[simp] theorem present_band : (present f p s).band = s.band := rfl
@[simp] theorem present_value : (present f p s).value = s.value := rfl
@[simp] theorem present_row : (present f p s).row = s.row := rfl
@[simp] theorem present_red : (present f p s).red = s.red := rfl
@[simp] theorem present_green : (present f p s).green = s.green := rfl
@[simp] theorem present_blue : (present f p s).blue = s.blue := rfl
@[simp] theorem present_en : (present f p s).en = s.en := rfl
@[simp] theorem present_fb : (present f p s).fb = fitFrame f := rfl
@[simp] theorem present_flen : (present f p s).flen = BitVec.ofNat 6 f.length := rfl
@[simp] theorem present_fparam : (present f p s).fparam = p := rfl
@[simp] theorem present_req : (present f p s).req = true := rfl
@[simp] theorem present_done : (present f p s).done = s.done := rfl
@[simp] theorem present_ovr : (present f p s).ovr = s.ovr := rfl
@[simp] theorem present_err : (present f p s).err = s.err := rfl
@[simp] theorem present_errOp : (present f p s).errOp = s.errOp := rfl
@[simp] theorem present_errIdx : (present f p s).errIdx = s.errIdx := rfl
@[simp] theorem present_link : (present f p s).link = s.link := rfl
@[simp] theorem present_inputs : (present f p s).inputs = s.inputs := rfl
@[simp] theorem present_log : (present f p s).log = s.log ++ [.presented f p] := rfl
end

section
variable (e : ErrorCode) (op : BitVec 4) (k : BitVec 5) (s : State)
@[simp] theorem raise_seq : (raise e op k s).seq = s.seq := rfl
@[simp] theorem raise_idx : (raise e op k s).idx = s.idx := rfl
@[simp] theorem raise_opr : (raise e op k s).opr = s.opr := rfl
@[simp] theorem raise_band : (raise e op k s).band = s.band := rfl
@[simp] theorem raise_value : (raise e op k s).value = s.value := rfl
@[simp] theorem raise_row : (raise e op k s).row = s.row := rfl
@[simp] theorem raise_red : (raise e op k s).red = s.red := rfl
@[simp] theorem raise_green : (raise e op k s).green = s.green := rfl
@[simp] theorem raise_blue : (raise e op k s).blue = s.blue := rfl
@[simp] theorem raise_en : (raise e op k s).en = s.en := rfl
@[simp] theorem raise_fb : (raise e op k s).fb = s.fb := rfl
@[simp] theorem raise_flen : (raise e op k s).flen = s.flen := rfl
@[simp] theorem raise_fparam : (raise e op k s).fparam = s.fparam := rfl
@[simp] theorem raise_req : (raise e op k s).req = s.req := rfl
@[simp] theorem raise_done : (raise e op k s).done = s.done := rfl
@[simp] theorem raise_ovr : (raise e op k s).ovr = s.ovr := rfl
@[simp] theorem raise_err : (raise e op k s).err = e := rfl
@[simp] theorem raise_errOp : (raise e op k s).errOp = op := rfl
@[simp] theorem raise_errIdx : (raise e op k s).errIdx = k := rfl
@[simp] theorem raise_link : (raise e op k s).link = s.link := rfl
@[simp] theorem raise_inputs : (raise e op k s).inputs = s.inputs := rfl
@[simp] theorem raise_log : (raise e op k s).log = s.log := rfl
end

section
variable (s : State)
@[simp] theorem clearRecord_seq : (clearRecord s).seq = s.seq := rfl
@[simp] theorem clearRecord_idx : (clearRecord s).idx = s.idx := rfl
@[simp] theorem clearRecord_opr : (clearRecord s).opr = s.opr := rfl
@[simp] theorem clearRecord_band : (clearRecord s).band = s.band := rfl
@[simp] theorem clearRecord_value : (clearRecord s).value = s.value := rfl
@[simp] theorem clearRecord_row : (clearRecord s).row = s.row := rfl
@[simp] theorem clearRecord_red : (clearRecord s).red = s.red := rfl
@[simp] theorem clearRecord_green : (clearRecord s).green = s.green := rfl
@[simp] theorem clearRecord_blue : (clearRecord s).blue = s.blue := rfl
@[simp] theorem clearRecord_en : (clearRecord s).en = s.en := rfl
@[simp] theorem clearRecord_fb : (clearRecord s).fb = s.fb := rfl
@[simp] theorem clearRecord_flen : (clearRecord s).flen = s.flen := rfl
@[simp] theorem clearRecord_fparam : (clearRecord s).fparam = s.fparam := rfl
@[simp] theorem clearRecord_req : (clearRecord s).req = s.req := rfl
@[simp] theorem clearRecord_done : (clearRecord s).done = false := rfl
@[simp] theorem clearRecord_ovr : (clearRecord s).ovr = false := rfl
@[simp] theorem clearRecord_err : (clearRecord s).err = .none := rfl
@[simp] theorem clearRecord_errOp : (clearRecord s).errOp = 0 := rfl
@[simp] theorem clearRecord_errIdx : (clearRecord s).errIdx = 0 := rfl
@[simp] theorem clearRecord_link : (clearRecord s).link = s.link := rfl
@[simp] theorem clearRecord_inputs : (clearRecord s).inputs = s.inputs := rfl
@[simp] theorem clearRecord_log : (clearRecord s).log = s.log := rfl
end

section
variable (s : State)
@[simp] theorem goIdle_seq : (goIdle s).seq = .idle := rfl
@[simp] theorem goIdle_idx : (goIdle s).idx = 0 := rfl
@[simp] theorem goIdle_opr : (goIdle s).opr = s.opr := rfl
@[simp] theorem goIdle_band : (goIdle s).band = s.band := rfl
@[simp] theorem goIdle_value : (goIdle s).value = s.value := rfl
@[simp] theorem goIdle_row : (goIdle s).row = s.row := rfl
@[simp] theorem goIdle_red : (goIdle s).red = s.red := rfl
@[simp] theorem goIdle_green : (goIdle s).green = s.green := rfl
@[simp] theorem goIdle_blue : (goIdle s).blue = s.blue := rfl
@[simp] theorem goIdle_en : (goIdle s).en = s.en := rfl
@[simp] theorem goIdle_fb : (goIdle s).fb = s.fb := rfl
@[simp] theorem goIdle_flen : (goIdle s).flen = s.flen := rfl
@[simp] theorem goIdle_fparam : (goIdle s).fparam = s.fparam := rfl
@[simp] theorem goIdle_req : (goIdle s).req = false := rfl
@[simp] theorem goIdle_done : (goIdle s).done = s.done := rfl
@[simp] theorem goIdle_ovr : (goIdle s).ovr = s.ovr := rfl
@[simp] theorem goIdle_err : (goIdle s).err = s.err := rfl
@[simp] theorem goIdle_errOp : (goIdle s).errOp = s.errOp := rfl
@[simp] theorem goIdle_errIdx : (goIdle s).errIdx = s.errIdx := rfl
@[simp] theorem goIdle_link : (goIdle s).link = s.link := rfl
@[simp] theorem goIdle_inputs : (goIdle s).inputs = s.inputs := rfl
@[simp] theorem goIdle_log : (goIdle s).log = s.log := rfl
end

section
variable (b : BitVec 3) (v : BitVec 8) (s : State)
@[simp] theorem latchEq_seq : (latchEq b v s).seq = s.seq := rfl
@[simp] theorem latchEq_idx : (latchEq b v s).idx = s.idx := rfl
@[simp] theorem latchEq_opr : (latchEq b v s).opr = s.opr := rfl
@[simp] theorem latchEq_band : (latchEq b v s).band = b := rfl
@[simp] theorem latchEq_value : (latchEq b v s).value = v := rfl
@[simp] theorem latchEq_row : (latchEq b v s).row = rowOf v := rfl
@[simp] theorem latchEq_red : (latchEq b v s).red = s.red := rfl
@[simp] theorem latchEq_green : (latchEq b v s).green = s.green := rfl
@[simp] theorem latchEq_blue : (latchEq b v s).blue = s.blue := rfl
@[simp] theorem latchEq_en : (latchEq b v s).en = s.en := rfl
@[simp] theorem latchEq_fb : (latchEq b v s).fb = s.fb := rfl
@[simp] theorem latchEq_flen : (latchEq b v s).flen = s.flen := rfl
@[simp] theorem latchEq_fparam : (latchEq b v s).fparam = s.fparam := rfl
@[simp] theorem latchEq_req : (latchEq b v s).req = s.req := rfl
@[simp] theorem latchEq_done : (latchEq b v s).done = s.done := rfl
@[simp] theorem latchEq_ovr : (latchEq b v s).ovr = s.ovr := rfl
@[simp] theorem latchEq_err : (latchEq b v s).err = s.err := rfl
@[simp] theorem latchEq_errOp : (latchEq b v s).errOp = s.errOp := rfl
@[simp] theorem latchEq_errIdx : (latchEq b v s).errIdx = s.errIdx := rfl
@[simp] theorem latchEq_link : (latchEq b v s).link = s.link := rfl
@[simp] theorem latchEq_inputs : (latchEq b v s).inputs = s.inputs := rfl
@[simp] theorem latchEq_log : (latchEq b v s).log = s.log := rfl
end

section
variable (r g b : BitVec 9) (s : State)
@[simp] theorem latchColor_seq : (latchColor r g b s).seq = s.seq := rfl
@[simp] theorem latchColor_idx : (latchColor r g b s).idx = s.idx := rfl
@[simp] theorem latchColor_opr : (latchColor r g b s).opr = s.opr := rfl
@[simp] theorem latchColor_band : (latchColor r g b s).band = s.band := rfl
@[simp] theorem latchColor_value : (latchColor r g b s).value = s.value := rfl
@[simp] theorem latchColor_row : (latchColor r g b s).row = s.row := rfl
@[simp] theorem latchColor_red : (latchColor r g b s).red = r.setWidth 8 := rfl
@[simp] theorem latchColor_green : (latchColor r g b s).green = g.setWidth 8 := rfl
@[simp] theorem latchColor_blue : (latchColor r g b s).blue = b.setWidth 8 := rfl
@[simp] theorem latchColor_en : (latchColor r g b s).en = s.en := rfl
@[simp] theorem latchColor_fb : (latchColor r g b s).fb = s.fb := rfl
@[simp] theorem latchColor_flen : (latchColor r g b s).flen = s.flen := rfl
@[simp] theorem latchColor_fparam : (latchColor r g b s).fparam = s.fparam := rfl
@[simp] theorem latchColor_req : (latchColor r g b s).req = s.req := rfl
@[simp] theorem latchColor_done : (latchColor r g b s).done = s.done := rfl
@[simp] theorem latchColor_ovr : (latchColor r g b s).ovr = s.ovr := rfl
@[simp] theorem latchColor_err : (latchColor r g b s).err = s.err := rfl
@[simp] theorem latchColor_errOp : (latchColor r g b s).errOp = s.errOp := rfl
@[simp] theorem latchColor_errIdx : (latchColor r g b s).errIdx = s.errIdx := rfl
@[simp] theorem latchColor_link : (latchColor r g b s).link = s.link := rfl
@[simp] theorem latchColor_inputs : (latchColor r g b s).inputs = s.inputs := rfl
@[simp] theorem latchColor_log : (latchColor r g b s).log = s.log := rfl
end

section
variable (e : BitVec 1) (s : State)
@[simp] theorem latchMic_seq : (latchMic e s).seq = s.seq := rfl
@[simp] theorem latchMic_idx : (latchMic e s).idx = s.idx := rfl
@[simp] theorem latchMic_opr : (latchMic e s).opr = s.opr := rfl
@[simp] theorem latchMic_band : (latchMic e s).band = s.band := rfl
@[simp] theorem latchMic_value : (latchMic e s).value = s.value := rfl
@[simp] theorem latchMic_row : (latchMic e s).row = s.row := rfl
@[simp] theorem latchMic_red : (latchMic e s).red = s.red := rfl
@[simp] theorem latchMic_green : (latchMic e s).green = s.green := rfl
@[simp] theorem latchMic_blue : (latchMic e s).blue = s.blue := rfl
@[simp] theorem latchMic_en : (latchMic e s).en = e := rfl
@[simp] theorem latchMic_fb : (latchMic e s).fb = s.fb := rfl
@[simp] theorem latchMic_flen : (latchMic e s).flen = s.flen := rfl
@[simp] theorem latchMic_fparam : (latchMic e s).fparam = s.fparam := rfl
@[simp] theorem latchMic_req : (latchMic e s).req = s.req := rfl
@[simp] theorem latchMic_done : (latchMic e s).done = s.done := rfl
@[simp] theorem latchMic_ovr : (latchMic e s).ovr = s.ovr := rfl
@[simp] theorem latchMic_err : (latchMic e s).err = s.err := rfl
@[simp] theorem latchMic_errOp : (latchMic e s).errOp = s.errOp := rfl
@[simp] theorem latchMic_errIdx : (latchMic e s).errIdx = s.errIdx := rfl
@[simp] theorem latchMic_link : (latchMic e s).link = s.link := rfl
@[simp] theorem latchMic_inputs : (latchMic e s).inputs = s.inputs := rfl
@[simp] theorem latchMic_log : (latchMic e s).log = s.log := rfl
end

section
variable (o w : Nat) (s : State)
@[simp] theorem hostRead_seq : (hostRead o w s).seq = s.seq := rfl
@[simp] theorem hostRead_idx : (hostRead o w s).idx = s.idx := rfl
@[simp] theorem hostRead_opr : (hostRead o w s).opr = s.opr := rfl
@[simp] theorem hostRead_band : (hostRead o w s).band = s.band := rfl
@[simp] theorem hostRead_value : (hostRead o w s).value = s.value := rfl
@[simp] theorem hostRead_row : (hostRead o w s).row = s.row := rfl
@[simp] theorem hostRead_red : (hostRead o w s).red = s.red := rfl
@[simp] theorem hostRead_green : (hostRead o w s).green = s.green := rfl
@[simp] theorem hostRead_blue : (hostRead o w s).blue = s.blue := rfl
@[simp] theorem hostRead_en : (hostRead o w s).en = s.en := rfl
@[simp] theorem hostRead_fb : (hostRead o w s).fb = s.fb := rfl
@[simp] theorem hostRead_flen : (hostRead o w s).flen = s.flen := rfl
@[simp] theorem hostRead_fparam : (hostRead o w s).fparam = s.fparam := rfl
@[simp] theorem hostRead_req : (hostRead o w s).req = s.req := rfl
@[simp] theorem hostRead_done : (hostRead o w s).done = s.done := rfl
@[simp] theorem hostRead_ovr : (hostRead o w s).ovr = s.ovr := rfl
@[simp] theorem hostRead_err : (hostRead o w s).err = s.err := rfl
@[simp] theorem hostRead_errOp : (hostRead o w s).errOp = s.errOp := rfl
@[simp] theorem hostRead_errIdx : (hostRead o w s).errIdx = s.errIdx := rfl
@[simp] theorem hostRead_link : (hostRead o w s).link = s.link := rfl
@[simp] theorem hostRead_inputs : (hostRead o w s).inputs = s.inputs := rfl
@[simp] theorem hostRead_log : (hostRead o w s).log = s.log ++ [.readBack o w (hostReadValue o w s)] := rfl
end

section
variable (s : State)
@[simp] theorem resetBlock_seq : (resetBlock s).seq = State.reset.seq := rfl
@[simp] theorem resetBlock_idx : (resetBlock s).idx = State.reset.idx := rfl
@[simp] theorem resetBlock_opr : (resetBlock s).opr = State.reset.opr := rfl
@[simp] theorem resetBlock_band : (resetBlock s).band = State.reset.band := rfl
@[simp] theorem resetBlock_value : (resetBlock s).value = State.reset.value := rfl
@[simp] theorem resetBlock_row : (resetBlock s).row = State.reset.row := rfl
@[simp] theorem resetBlock_red : (resetBlock s).red = State.reset.red := rfl
@[simp] theorem resetBlock_green : (resetBlock s).green = State.reset.green := rfl
@[simp] theorem resetBlock_blue : (resetBlock s).blue = State.reset.blue := rfl
@[simp] theorem resetBlock_en : (resetBlock s).en = State.reset.en := rfl
@[simp] theorem resetBlock_fb : (resetBlock s).fb = State.reset.fb := rfl
@[simp] theorem resetBlock_flen : (resetBlock s).flen = State.reset.flen := rfl
@[simp] theorem resetBlock_fparam : (resetBlock s).fparam = State.reset.fparam := rfl
@[simp] theorem resetBlock_req : (resetBlock s).req = State.reset.req := rfl
@[simp] theorem resetBlock_done : (resetBlock s).done = State.reset.done := rfl
@[simp] theorem resetBlock_ovr : (resetBlock s).ovr = State.reset.ovr := rfl
@[simp] theorem resetBlock_err : (resetBlock s).err = State.reset.err := rfl
@[simp] theorem resetBlock_errOp : (resetBlock s).errOp = State.reset.errOp := rfl
@[simp] theorem resetBlock_errIdx : (resetBlock s).errIdx = State.reset.errIdx := rfl
@[simp] theorem resetBlock_link : (resetBlock s).link = s.link := rfl
@[simp] theorem resetBlock_inputs : (resetBlock s).inputs = s.inputs := rfl
@[simp] theorem resetBlock_log : (resetBlock s).log = s.log := rfl
end

end Sys2Proof.Machine
end

