-- ==== Sys2Proof/Laws/Ops.lean ====
section
/-! SUPPORT. What each shared operation can do, said once: presenting a frame, a CMD write, the Transport's answer, and one
step by the environment's next step. -/

namespace Sys2Proof.Machine

@[simp] theorem fitFrame_getElem (f : Frame) (i : Nat) (h : i < 39) : (fitFrame f)[i] = f.getD i 0x00 := by
  simp only [fitFrame, Vector.getElem_mk, List.getElem_toArray, List.getElem_take, List.getElem_append,
    List.getElem_replicate, List.getD_eq_getElem?_getD]
  split <;> simp [*]

/-- The bytes of FB up to a frame's length are the frame (R150). -/
theorem fitFrame_take {f : Frame} (h : f.length ≤ 39) : (fitFrame f).toList.take f.length = f := by
  simp [fitFrame, Vector.toList, List.take_take, h]

theorem presentAt_of_ok {k : Nat} {s : State} {f : Frame} {p : Param} (h : frame s s.opr k = .ok (f, p)) :
    presentAt k s = .next (present f p s) := by
  simp [presentAt, h]

theorem presentAt_next {k : Nat} {s t : State} (h : presentAt k s = .next t) :
    ∃ f p, frame s s.opr k = .ok (f, p) ∧ t = present f p s := by
  unfold presentAt at h
  split at h
  · next f p hf => exact ⟨f, p, hf, by simpa using h.symm⟩
  · cases h

theorem cmdWrite_busy {op valid latch} {s : State} (h : s.seq = .busy) :
    cmdWrite op valid latch s = .next { s with ovr := true } := by
  simp [cmdWrite, h]

theorem cmdWrite_linkDown {op valid latch} {s : State} (h : s.seq = .idle) (hl : s.link = false) :
    cmdWrite op valid latch s = .next (rejected .linkDown op s) := by
  simp [cmdWrite, h, hl, rejected, raise, clearRecord]

theorem cmdWrite_invalid {op latch} {s : State} (h : Ready s) :
    cmdWrite op false latch s = .next (rejected .invalidArgument op s) := by
  simp [cmdWrite, h.1, h.2, rejected, raise, clearRecord]

theorem cmdWrite_valid {op latch} {s : State} (h : Ready s) :
    cmdWrite op true latch s = startSequence op (latch (clearRecord s)) := by
  simp [cmdWrite, h.1, h.2]

/-- The checks (2) to (4) of R146 as the meanings make them. -/
def validBits : Instr → Bool
  | .micSet resv _ => resv == 0
  | .eqSet resv band value => resv == 0 && eqLegal band value
  | .colorSet resv red green blue => resv == 0 && colorLegal red green blue
  | .reserved0 _ => false
  | .reserved4to7 _ _ => false
  | .reserved8toF _ _ => false

/-- The latch writes of a command (R147). -/
def latchOf : Instr → State → State
  | .micSet _ en => latchMic en
  | .eqSet _ band value => latchEq band value
  | .colorSet _ red green blue => latchColor red green blue
  | .reserved0 _ => id
  | .reserved4to7 _ _ => id
  | .reserved8toF _ _ => id

theorem validBits_iff (i : Instr) : validBits i = true ↔ Accepted i := by
  cases i <;> simp [validBits, Accepted, eqLegal, colorLegal, componentLegal, eqMax, and_assoc]

/-- Every command is one CMD write (R157). -/
theorem exec_eq_cmdWrite (i : Instr) (s : State) : exec i s = cmdWrite i.op (validBits i) (latchOf i) s := by
  cases i <;> rfl

section
variable (i : Instr) (s : State)
@[simp] theorem latchOf_seq : (latchOf i s).seq = s.seq := by cases i <;> rfl
@[simp] theorem latchOf_idx : (latchOf i s).idx = s.idx := by cases i <;> rfl
@[simp] theorem latchOf_opr : (latchOf i s).opr = s.opr := by cases i <;> rfl
@[simp] theorem latchOf_fb : (latchOf i s).fb = s.fb := by cases i <;> rfl
@[simp] theorem latchOf_flen : (latchOf i s).flen = s.flen := by cases i <;> rfl
@[simp] theorem latchOf_fparam : (latchOf i s).fparam = s.fparam := by cases i <;> rfl
@[simp] theorem latchOf_req : (latchOf i s).req = s.req := by cases i <;> rfl
@[simp] theorem latchOf_done : (latchOf i s).done = s.done := by cases i <;> rfl
@[simp] theorem latchOf_ovr : (latchOf i s).ovr = s.ovr := by cases i <;> rfl
@[simp] theorem latchOf_err : (latchOf i s).err = s.err := by cases i <;> rfl
@[simp] theorem latchOf_errOp : (latchOf i s).errOp = s.errOp := by cases i <;> rfl
@[simp] theorem latchOf_errIdx : (latchOf i s).errIdx = s.errIdx := by cases i <;> rfl
@[simp] theorem latchOf_link : (latchOf i s).link = s.link := by cases i <;> rfl
@[simp] theorem latchOf_inputs : (latchOf i s).inputs = s.inputs := by cases i <;> rfl
@[simp] theorem latchOf_log : (latchOf i s).log = s.log := by cases i <;> rfl
end

/-- What a command can do (R144 to R147): it is dropped, rejected for the link, rejected for an argument, or accepted. -/
theorem exec_next {i : Instr} {s t : State} (h : exec i s = .next t) :
    (s.seq = .busy ∧ t = { s with ovr := true }) ∨
    (s.seq = .idle ∧ s.link = false ∧ t = rejected .linkDown i.op s) ∨
    (Ready s ∧ ¬ Accepted i ∧ t = rejected .invalidArgument i.op s) ∨
    (Ready s ∧ Accepted i ∧ ∃ f p, frame (latchOf i s) i.op 0 = .ok (f, p) ∧
      t = present f p { latchOf i (clearRecord s) with opr := i.op, idx := 0, seq := .busy }) := by
  rw [exec_eq_cmdWrite] at h
  obtain hs | hs : s.seq = .busy ∨ s.seq = .idle := by cases s.seq <;> simp
  · rw [cmdWrite_busy hs] at h
    cases h
    exact .inl ⟨hs, rfl⟩
  refine .inr ?_
  obtain hl | hl : s.link = false ∨ s.link = true := by cases s.link <;> simp
  · rw [cmdWrite_linkDown hs hl] at h
    cases h
    exact .inl ⟨hs, hl, rfl⟩
  have hr : Ready s := ⟨hs, hl⟩
  refine .inr ?_
  cases hv : validBits i with
  | false =>
    rw [hv, cmdWrite_invalid hr] at h
    cases h
    exact .inl ⟨hr, by simp [← validBits_iff, hv], rfl⟩
  | true =>
    rw [hv, cmdWrite_valid hr] at h
    obtain ⟨f, p, hf, rfl⟩ := presentAt_next h
    refine .inr ⟨hr, (validBits_iff i).mp hv, f, p, ?_, rfl⟩
    rw [← hf]
    cases i <;> exact (frame_congr rfl rfl rfl rfl rfl rfl rfl _ _).symm

/-- A step takes the environment's next step off the list and does what it asks of the block (R143). -/
theorem step_cons {s : State} {e : Event} {rest : List Event} (h : s.inputs = e :: rest) :
    step s = match route e { s with inputs := rest } with
      | .command w => exec (decode w) { s with inputs := rest }
      | .effect r => r := by
  unfold step
  split
  · next h' => exact absurd (h'.symm.trans h) (by simp)
  · next h' =>
    cases h'.symm.trans h
    rfl

/-- What an OK answer can do (R152, R153). -/
theorem answerOk_next {s t : State} (h : answerOk s = .next t) :
    ∃ n, seqLength s.opr = some n ∧
      ((s.idx.toNat = n - 1 ∧ t = goIdle { s with done := true }) ∨
       (s.idx.toNat ≠ n - 1 ∧ ∃ f p, frame s s.opr (s.idx.toNat + 1) = .ok (f, p) ∧
          t = present f p { s with idx := s.idx + 1 })) := by
  unfold answerOk at h
  split at h
  · cases h
  · next n hn =>
    refine ⟨n, hn, ?_⟩
    split at h
    · next hk => exact .inl ⟨hk, by simpa using h.symm⟩
    · next hk =>
      obtain ⟨f, p, hf, rfl⟩ := presentAt_next h
      exact .inr ⟨hk, f, p, by rw [← hf]; exact frame_congr rfl rfl rfl rfl rfl rfl rfl _ _, rfl⟩

/-- What an answer can do (R151 to R154, R186). -/
theorem transportRespond_next {r : Response} {s t : State} (h : transportRespond r s = .next t) :
    (s.req = false ∧ t = s) ∨
    (s.req = true ∧ r = .ok ∧ answerOk { s with log := s.log ++ [.answered .ok] } = .next t) ∨
    (s.req = true ∧ r = .fail ∧ t = answerFail { s with log := s.log ++ [.answered .fail] }) := by
  unfold transportRespond at h
  split at h
  · next hr => exact .inl ⟨hr, by simpa using h.symm⟩
  · next hr =>
    refine .inr ?_
    cases r with
    | ok => exact .inl ⟨by simpa using hr, rfl, h⟩
    | fail => exact .inr ⟨by simpa using hr, rfl, by simpa using h.symm⟩

/-- What one step can do, by the environment's next step (R143). -/
theorem step_next {s t : State} (h : step s = .next t) :
    (s.inputs = [] ∧ t = s) ∨
    (∃ w rest, s.inputs = .hostWrite 0x0 32 w :: rest ∧ exec (decode w) { s with inputs := rest } = .next t) ∨
    (∃ o n w rest, s.inputs = .hostWrite o n w :: rest ∧ ¬ (o = 0x0 ∧ n = 32) ∧ t = { s with inputs := rest }) ∨
    (∃ o n rest, s.inputs = .hostRead o n :: rest ∧ t = hostRead o n { s with inputs := rest }) ∨
    (∃ r rest, s.inputs = .respond r :: rest ∧ transportRespond r { s with inputs := rest } = .next t) ∨
    (∃ up rest, s.inputs = .link up :: rest ∧ t = { s with inputs := rest, link := up }) ∨
    (∃ rest, s.inputs = .reset :: rest ∧ t = resetBlock { s with inputs := rest }) := by
  cases hi : s.inputs with
  | nil =>
    simp [step, hi] at h
    simp [h]
  | cons e rest =>
    rw [step_cons hi] at h
    cases e with
    | hostWrite o n w =>
      by_cases hc : o = 0x0 ∧ n = 32
      · obtain ⟨rfl, rfl⟩ := hc
        exact .inr (.inl ⟨w, rest, rfl, h⟩)
      · simp only [route, cmdOffset, hc, if_false, Host.Outcome.next.injEq] at h
        exact .inr (.inr (.inl ⟨o, n, w, rest, rfl, hc, h.symm⟩))
    | hostRead o n =>
      simp only [route, Host.Outcome.next.injEq] at h
      exact .inr (.inr (.inr (.inl ⟨o, n, rest, rfl, h.symm⟩)))
    | respond r => exact .inr (.inr (.inr (.inr (.inl ⟨r, rest, rfl, h⟩))))
    | link up =>
      simp only [route, Host.Outcome.next.injEq] at h
      exact .inr (.inr (.inr (.inr (.inr (.inl ⟨up, rest, rfl, h.symm⟩)))))
    | reset =>
      simp only [route, Host.Outcome.next.injEq] at h
      exact .inr (.inr (.inr (.inr (.inr (.inr ⟨rest, rfl, h.symm⟩)))))

@[simp] theorem runSteps_zero (s : State) : runSteps 0 s = .next s := rfl

theorem runSteps_succ {k : Nat} {s t : State} (h : step s = .next t) : runSteps (k + 1) s = runSteps k t := by
  have h' : Host.Core.step Sys2Proof.core s = .next t := h
  simp only [runSteps, Host.Core.run, h']
  rfl

@[simp] theorem framesOf_append (a b : List Obs) : framesOf (a ++ b) = framesOf a ++ framesOf b := by
  induction a with
  | nil => rfl
  | cons o a ih => cases o <;> simp [framesOf, ih]

end Sys2Proof.Machine
end

