-- ==== Sys2Proof/Laws/PerInstr.lean ====
section
/-! SUPPORT. Laws about every command as syntax, one lemma a constructor. Family OpNibble: the word of a command carries the
command's OP in bits 31:28 (30_encoding.md rules R73, R75). -/

/-- The word of a command has the command's OP in bits 31:28 (R73). -/
def Sys2Proof.Laws.OpNibble.Statement (i : Sys2Proof.Instr) : Prop :=
  Sys2Proof.opField (Sys2Proof.encode i) = i.op

namespace Sys2Proof.Laws.OpNibble

theorem micSet (resv : BitVec 27) (en : BitVec 1) : Statement (.micSet resv en) := by
  ext i hi
  simp [encode, opField, Instr.op]
  grind

theorem eqSet (resv : BitVec 17) (band : BitVec 3) (value : BitVec 8) : Statement (.eqSet resv band value) := by
  ext i hi
  simp [encode, opField, Instr.op]
  grind

theorem colorSet (resv : BitVec 1) (red green blue : BitVec 9) : Statement (.colorSet resv red green blue) := by
  ext i hi
  simp [encode, opField, Instr.op]
  grind

theorem reserved0 (rest : BitVec 28) : Statement (.reserved0 rest) := by
  ext i hi
  simp [encode, opField, Instr.op]
  grind

theorem reserved4to7 (sub : BitVec 2) (rest : BitVec 28) : Statement (.reserved4to7 sub rest) := by
  ext i hi
  simp [encode, opField, Instr.op]
  grind

theorem reserved8toF (sub : BitVec 3) (rest : BitVec 28) : Statement (.reserved8toF sub rest) := by
  ext i hi
  simp [encode, opField, Instr.op]
  grind

end Sys2Proof.Laws.OpNibble
end

