-- ==== Sys2Proof/Tests/Slice0.lean ====
section
/-! SUPPORT. Tests: words written out from the encodings, one step at a time against 95_test_vectors.md, and for each
statement with hypotheses a state and operands that meet them. Expected values are those of the spec's tables. -/

namespace Sys2Proof.Tests

open Sys2Proof Sys2Proof.Machine

/-! ## Helpers -/

/-- The state after reset with LINK = 1 (the start of the vectors of 95_test_vectors.md). -/
def ready : State := { State.reset with link := true }

/-- A state with the given steps of the environment to come. -/
def given (s : State) (inputs : List Event) : State := { s with inputs := inputs }

/-- The state after one step, where there is one. -/
def after (s : State) : State :=
  match step s with
  | .next t => t
  | .fault _ => s
  | .refused _ => s

/-- The STATUS word after the host writes w to CMD. -/
def statusAfterWrite (s : State) (w : Word) : Option Word :=
  match step (given s [.hostWrite 0x0 32 w]) with
  | .next t => some (statusWord t)
  | .fault _ => none
  | .refused _ => none

/-- The STATUS word after the Transport answers. -/
def statusAfterAnswer (s : State) (r : Response) : Option Word :=
  match step (given s [.respond r]) with
  | .next t => some (statusWord t)
  | .fault _ => none
  | .refused _ => none

/-- mic.set 1, its frame outstanding. -/
def micBusy : State :=
  present (cmdFrame 0xF0 0xF1) Config.pDefault { ready with en := 1, opr := 0x1, seq := .busy }

/-- eq.set 4, 0x30, frame k outstanding with the given opcode and payload. -/
def eqBusy (k : BitVec 5) (op p : Byte) : State :=
  present (cmdFrame op p) Config.pDefault
    { ready with band := 4, value := 0x30, row := 2, opr := 0x2, idx := k, seq := .busy }

/-- color.set 0xDE, 0xAD, 0xFF, frame k outstanding with the given bytes and parameter. -/
def colorBusy (k : BitVec 5) (f : Frame) (p : Param) : State :=
  present f p { ready with red := 0xDE, green := 0xAD, blue := 0xFF, opr := 0x3, idx := k, seq := .busy }

/-- A busy state with its frame just presented has the invariant. -/
theorem invariant_present {s : State} {n : Nat} {f : Frame} {p : Param} (hseq : s.seq = .busy)
    (hn : seqLength s.opr = some n) (hk : s.idx.toNat < n) (hf : frame s s.opr s.idx.toNat = .ok (f, p))
    (hop : s.opr.toNat ≤ 3) (hb : s.band.toNat ≤ 4) (hv : s.value.toNat ≤ 0x30) (hr : s.row = rowOf s.value)
    (hd : s.done = false) (he : s.err = .none) (ho : s.errOp = 0) (hi : s.errIdx = 0) : Invariant (present f p s) where
  req_iff_busy := by simp [hseq]
  busy_frame _ := ⟨n, hn, hk, f, p, (frame_congr rfl rfl rfl rfl rfl rfl rfl _ _).trans hf, rfl, rfl, rfl⟩
  idle_idx h := by simp [hseq] at h
  opr_known := hop
  band_le := hb
  value_le := hv
  row_eq := hr
  done_no_error h := by simp [hd] at h
  busy_no_record _ := ⟨hd, he⟩
  failed_idx h := by simp [he] at h
  other_idx _ := hi
  none_op _ := ho

theorem micBusy_invariant : Invariant micBusy :=
  invariant_present (n := 1) rfl rfl (by decide) rfl (by decide) (by decide) (by decide) rfl rfl rfl rfl rfl

theorem eqBusy0_invariant : Invariant (eqBusy 0 (Config.opReg 4) 0x18) :=
  invariant_present (n := 19) rfl rfl (by decide) rfl (by decide) (by decide) (by decide) rfl rfl rfl rfl rfl

theorem eqBusy17_invariant : Invariant (eqBusy 17 (Config.opReg 4) 0x30) :=
  invariant_present (n := 19) rfl rfl (by decide) rfl (by decide) (by decide) (by decide) rfl rfl rfl rfl rfl

theorem colorBusy11_invariant : Invariant (colorBusy 11 presaveFrame Config.pPresave) :=
  invariant_present (n := 13) rfl rfl (by decide) rfl (by decide) (by decide) (by decide) rfl rfl rfl rfl rfl

theorem colorBusy12_invariant : Invariant (colorBusy 12 saveFrame Config.pSave) :=
  invariant_present (n := 13) rfl rfl (by decide) rfl (by decide) (by decide) (by decide) rfl rfl rfl rfl rfl

/-! ## Well-formedness (R75, R82): one ill-formed command for each check, and a well-formed one for each form -/

theorem test_wellFormed_accepts : (Instr.micSet 0 1).wellFormed = true ∧ (Instr.eqSet 0 7 0xFF).wellFormed = true ∧
    (Instr.colorSet 0 511 511 511).wellFormed = true := by decide

theorem test_wellFormed_refuses_mic_reserved : (Instr.micSet 1 1).wellFormed = false := by decide

theorem test_wellFormed_refuses_eq_reserved : (Instr.eqSet 0x10000 2 0x20).wellFormed = false := by decide

theorem test_wellFormed_refuses_color_reserved : (Instr.colorSet 1 0 0 0).wellFormed = false := by decide

theorem test_wellFormed_refuses_reserved_rows : (Instr.reserved0 0).wellFormed = false ∧
    (Instr.reserved4to7 0 0).wellFormed = false ∧ (Instr.reserved8toF 0 0).wellFormed = false := by decide

/-! ## Decoding, the words written out field by field from R76, R77, R78 and R81 -/

/-- R76: OP 0001, reserved 27:1 zero, EN = 1; then the lowest and the highest reserved bit alone. -/
theorem test_decode_mic :
    decode 0b0001_000000000000000000000000000_1 = .micSet 0 1 ∧
    decode 0b0001_000000000000000000000000001_0 = .micSet 1 0 ∧
    decode 0b0001_100000000000000000000000000_1 = .micSet 0x4000000 1 := by decide

/-- R77: OP 0010, reserved 27:11, BAND = 100, VALUE = 00110000; then the lowest and the highest reserved bit alone. -/
theorem test_decode_eq :
    decode 0b0010_00000000000000000_100_00110000 = .eqSet 0 4 0x30 ∧
    decode 0b0010_00000000000000001_000_00000000 = .eqSet 1 0 0 ∧
    decode 0b0010_10000000000000000_111_00000001 = .eqSet 0x10000 7 1 := by decide

/-- R78: OP 0011, reserved 27, RED = 0 11011110, GREEN = 0 10101101, BLUE = 0 11111111; then bit 27, and bit 8 of each
component alone. -/
theorem test_decode_color :
    decode 0b0011_0_011011110_010101101_011111111 = .colorSet 0 0xDE 0xAD 0xFF ∧
    decode 0b0011_1_000000001_000000010_000000011 = .colorSet 1 1 2 3 ∧
    decode 0b0011_0_100000000_000000000_000000000 = .colorSet 0 256 0 0 ∧
    decode 0b0011_0_000000000_100000000_000000000 = .colorSet 0 0 256 0 ∧
    decode 0b0011_0_000000000_000000000_100000000 = .colorSet 0 0 0 256 := by decide

/-- R81: OP 0000, 0100, 0111, 1000 and 1111, the row of the table each lies in. -/
theorem test_decode_reserved :
    decode 0b0000_0000000000000000000000000001 = .reserved0 1 ∧
    decode 0b0100_0000000000000000000000000010 = .reserved4to7 0 2 ∧
    decode 0b0111_0000000000000000000000000000 = .reserved4to7 3 0 ∧
    decode 0b1000_0000000000000000000000000000 = .reserved8toF 0 0 ∧
    decode 0b1111_1000000000000000000000000000 = .reserved8toF 7 0x8000000 := by decide

/-- spec/opcode_table.json: the word of each row, as the table numbers its bits. -/
theorem test_decode_table_rows :
    decodeTableWord 32 0x10000000 = some (.micSet 0 0) ∧ decodeTableWord 32 0x20000000 = some (.eqSet 0 0 0) ∧
    decodeTableWord 32 0x30000000 = some (.colorSet 0 0 0 0) ∧ decodeTableWord 32 0 = some (.reserved0 0) ∧
    decodeTableWord 32 0x40000000 = some (.reserved4to7 0 0) ∧
    decodeTableWord 32 0x80000000 = some (.reserved8toF 0 0) := by decide

/-! ## The assembler's text (R93 to R97) -/

/-- R97: the text of an example, its word and back; R93: capitals, decimal and blanks. -/
theorem test_text_examples :
    assembleText "color.set 0xDE, 0xAD, 0xFF".toList = some 0x33795AFF ∧
    disassembleText 0x33795AFF = "color.set 0xDE, 0xAD, 0xFF".toList ∧
    assembleText "  EQ.SET 2,32 ; a comment".toList = some 0x20000220 ∧
    disassembleText 0x20000220 = "eq.set 2, 0x20".toList ∧
    assembleText "mic.on".toList = some 0x10000001 ∧ disassembleText 0x10000001 = "mic.set 1".toList := by decide

/-- R94: what does not fit is an error; R96: a reserved OP or bit comes out as .word. -/
theorem test_text_errors :
    assembleText "mic.set 2".toList = none ∧ assembleText "eq.set 8, 0".toList = none ∧
    assembleText "color.set 512, 0, 0".toList = none ∧
    disassembleText 0x20000800 = ".word 0x20000800".toList ∧ assembleText ".word 0x20000800".toList = some 0x20000800 ∧
    disassembleText 0xF0000000 = ".word 0xF0000000".toList := by decide

/-! ## The Frame Encoder (T-ENC-1, 2, 4, 5, 6) -/

theorem test_enc_one : enc 0xF0 [0xF1] =
    .ok [0x01, 0x00, 0xF0, 0x01, 0xF1, 0, 0, 0, 0, 0, 0, 0, 0, 0, 0, 0] := by rfl

theorem test_enc_none : enc 0x00 [] = .ok [0x01, 0, 0, 0, 0, 0, 0, 0, 0, 0, 0, 0, 0, 0, 0, 0] := by rfl

theorem test_enc_full : enc 0x12 [1, 2, 3, 4, 5, 6, 7, 8, 9, 10, 11, 12] =
    .ok [0x01, 0x00, 0x12, 0x0C, 1, 2, 3, 4, 5, 6, 7, 8, 9, 10, 11, 12] := by rfl

theorem test_enc_two : enc 0x34 [0xAA, 0xBB] =
    .ok [0x01, 0x00, 0x34, 0x02, 0xAA, 0xBB, 0, 0, 0, 0, 0, 0, 0, 0, 0, 0] := by rfl

theorem test_enc_too_long : enc 0x01 (List.replicate 13 0x00) = .error .encFault := by rfl

/-! ## One command at a time, from reset with LINK = 1 but where said -/

/-- T-DEC-13 and T-DEC-4. -/
theorem test_mic_status : statusAfterWrite ready 0x10000001 = some 0x00100009 ∧
    statusAfterWrite ready 0x10000003 = some 0x00000118 := by decide

/-- T-MIC-1 and T-MIC-2: frame 0. -/
theorem test_mic_frame :
    outstanding (after (given ready [.hostWrite 0x0 32 0x10000001])) =
      some ([0x01, 0x00, 0xF0, 0x01, 0xF1, 0, 0, 0, 0, 0, 0, 0, 0, 0, 0, 0], Config.pDefault) ∧
    outstanding (after (given ready [.hostWrite 0x0 32 0x10000000])) =
      some ([0x01, 0x00, 0xF0, 0x01, 0x00, 0, 0, 0, 0, 0, 0, 0, 0, 0, 0, 0], Config.pDefault) := ⟨rfl, rfl⟩

/-- T-DEC-10 and T-DEC-11; T-DEC-5 and T-DEC-7; T-EQ-R6. -/
theorem test_eq_status :
    statusAfterWrite ready 0x20000430 = some 0x00200009 ∧ statusAfterWrite ready 0x20000000 = some 0x00200009 ∧
    statusAfterWrite ready 0x20000800 = some 0x00000218 ∧ statusAfterWrite ready 0x200007FF = some 0x00000218 ∧
    statusAfterWrite ready 0x20000431 = some 0x00000218 := by decide

/-- T-EQ-R1 to T-EQ-R5: the row latched. -/
theorem test_eq_rows :
    (after (given ready [.hostWrite 0x0 32 0x20000000])).row = 0 ∧
    (after (given ready [.hostWrite 0x0 32 0x20000017])).row = 0 ∧
    (after (given ready [.hostWrite 0x0 32 0x20000018])).row = 1 ∧
    (after (given ready [.hostWrite 0x0 32 0x20000019])).row = 2 ∧
    (after (given ready [.hostWrite 0x0 32 0x20000030])).row = 2 := by decide

/-- T-DEC-12 and T-DEC-6; T-COL-4 and T-COL-5. -/
theorem test_color_status :
    statusAfterWrite ready 0x33FDFEFF = some 0x00300009 ∧ statusAfterWrite ready 0x38040403 = some 0x00000318 ∧
    statusAfterWrite ready 0x34000000 = some 0x00000318 ∧ statusAfterWrite ready 0x37FFFFFF = some 0x00000318 := by
  decide

/-- color.set 0xDE, 0xAD, 0xFF: the latches, and the colour bytes of frame 3 at RGB_OFF (S4). -/
theorem test_color_latches :
    (after (given ready [.hostWrite 0x0 32 0x33795AFF])).red = 0xDE ∧
    (after (given ready [.hostWrite 0x0 32 0x33795AFF])).green = 0xAD ∧
    (after (given ready [.hostWrite 0x0 32 0x33795AFF])).blue = 0xFF := by decide

/-- T-DEC-1, T-DEC-2, T-DEC-3. -/
theorem test_reserved_status : statusAfterWrite ready 0x00000000 = some 0x00000018 ∧
    statusAfterWrite ready 0x40000000 = some 0x00000418 ∧ statusAfterWrite ready 0xF0000000 = some 0x00000F18 := by
  decide

/-- T-DEC-8 and T-DEC-9, LINK = 0. -/
theorem test_link_down_status : statusAfterWrite State.reset 0x20000510 = some 0x00000230 ∧
    statusAfterWrite State.reset 0x10000001 = some 0x00000130 := by decide

/-- T-DEC-14 and T-SEQ-5: the STATUS of 95_test_vectors.md program C, frame 2 of color.set outstanding. -/
theorem test_busy_write : statusWord (colorBusy 2 (rawFrame 2) Config.pDefault) = 0x02300009 ∧
    statusAfterWrite (colorBusy 2 (rawFrame 2) Config.pDefault) 0x10000000 = some 0x0230000D := by decide

/-- S8: the value scale at its ends, at 0 dB and at 0x20, in half decibels. -/
theorem test_value_scale : halfDecibels 0x00 = -24 ∧ halfDecibels 0x18 = 0 ∧ halfDecibels 0x30 = 24 ∧
    halfDecibels 0x20 = 8 := by decide

/-- T-SEQ-1. -/
theorem test_status_ready : hostReadValue 0x4 32 ready = 0x00000008 := by decide

/-- The last OK: T-MIC-1 and T-EQ-F1, the end STATUS. -/
theorem test_last_ok : statusAfterAnswer micBusy .ok = some 0x0010000A ∧
    statusAfterAnswer (eqBusy 18 Config.opPage 0x0D) .ok = some 0x0020000A := by decide

/-- T-SEQ-2: the fifth OK, frame 5 next. -/
theorem test_fifth_ok :
    statusAfterAnswer (eqBusy 4 Config.opCal (calAt 4 2 1)) .ok = some 0x05200009 := by decide

/-- T-MIC-1, T-EQ (FAIL at 18) and COLOR_SET (FAIL at 11). -/
theorem test_fail : statusAfterAnswer micBusy .fail = some 0x00100128 ∧
    statusAfterAnswer (eqBusy 18 Config.opPage 0x0D) .fail = some 0x00212228 ∧
    statusAfterAnswer (colorBusy 11 presaveFrame Config.pPresave) .fail = some 0x0030B328 := by decide

/-- T-SEQ-3: reset in the middle of a sequence. -/
theorem test_reset_status :
    statusWord (after (given (eqBusy 5 Config.opCal (calAt 4 2 2)) [.reset])) = 0x00000008 := by decide

/-- The first step after a word is placed runs its command. -/
theorem test_withFetchWord :
    step (State.reset.withFetchWord 32 0x20000430) = exec (.eqSet 0 4 0x30) ready ∧
    step (State.reset.withFetchWord 32 0xF0000000) = exec (.reserved8toF 7 0) ready := ⟨rfl, rfl⟩

/-! ## Hypotheses met -/

/-- DecodeReadsFields: a word for each clause. -/
theorem test_meets_DecodeReadsFields : (0x10000001 : Word).extractLsb' 28 4 = 0x1 ∧
    (0x20000431 : Word).extractLsb' 28 4 = 0x2 ∧ (0x3FFFFFFF : Word).extractLsb' 28 4 = 0x3 ∧
    ((0x4FFFFFFF : Word).extractLsb' 28 4 ≠ 0x1 ∧ (0x4FFFFFFF : Word).extractLsb' 28 4 ≠ 0x2 ∧
      (0x4FFFFFFF : Word).extractLsb' 28 4 ≠ 0x3) ∧
    ((0x0FFFFFFF : Word).extractLsb' 28 4 ≠ 0x1 ∧ (0x0FFFFFFF : Word).extractLsb' 28 4 ≠ 0x2 ∧
      (0x0FFFFFFF : Word).extractLsb' 28 4 ≠ 0x3) := by decide

/-- EveryWordHasOneRow: each of the six rows of the table, its own pattern, and a word of another row. -/
theorem test_meets_EveryWordHasOneRow : opcodeRows[5]? = some ⟨"RESERVED", 0x80000000, 0x80000000, 0x00000000, 0⟩ ∧
    (OpcodeRow.fits ⟨"RESERVED", 0x80000000, 0x80000000, 0x00000000, 0⟩ 0x80000000) = true ∧
    (OpcodeRow.fits ⟨"RESERVED", 0x80000000, 0x80000000, 0x00000000, 0⟩ 0x70000000) = false := by decide

/-- AssemblerTakesWhatFits: the bounds of each form, and a line whose word is ill-formed. -/
theorem test_meets_AssemblerTakesWhatFits :
    assemble (.micSet 1) = some 0x10000001 ∧ assemble (.micSet 2) = none ∧
    assemble (.eqSet 7 255) = some 0x200007FF ∧ assemble (.eqSet 8 255) = none ∧ assemble (.eqSet 7 256) = none ∧
    assemble (.colorSet 511 511 511) = some 0x37FFFFFF ∧ assemble (.colorSet 0 0 512) = none ∧
    assemble (.word 0xFFFFFFFF) = some 0xFFFFFFFF ∧ assemble (.word 0x100000000) = none ∧
    assemble (.word 0x20000800) = some 0x20000800 ∧ (decode 0x20000800).wellFormed = false := by decide

/-- PseudoInstructionsExpand: the last band that fits and the first that does not. -/
theorem test_meets_PseudoInstructionsExpand : assemble (.eqFlat 7) = some 0x20000718 ∧ assemble (.eqFlat 8) = none := by
  decide

/-- EncoderFrameLayout: a payload at the bound, with an index in it, one with padding, and one past the bound. -/
theorem test_meets_EncoderFrameLayout : (List.replicate 12 (0xFF : Byte)).length ≤ 12 ∧
    11 < (List.replicate 12 (0xFF : Byte)).length ∧ ([0xF1] : List Byte).length ≤ 12 ∧
    4 + ([0xF1] : List Byte).length ≤ 5 ∧ 12 < (List.replicate 13 (0xFF : Byte)).length := by decide

/-- OpenParametersKeepConstraints: equal opcodes are those of one band. -/
theorem test_meets_OpenParametersKeepConstraints : Config.opReg 4 = Config.opReg 4 := rfl

/-- RowIsStepFunctionOfValue: a value for each clause, at the boundaries. -/
theorem test_meets_RowIsStepFunctionOfValue :
    (0x17 : BitVec 8).toNat < 0x18 ∧ (0x18 : BitVec 8).toNat = 0x18 ∧ 0x18 < (0x19 : BitVec 8).toNat ∧
    rowOf 0x17 = 0 ∧ rowOf 0x18 = 1 ∧ rowOf 0x19 = 2 := by decide

/-- OnlyColorBytesDependOnOperands: two colours whose frames 3 differ at RGB_OFF. -/
theorem test_meets_OnlyColorBytesDependOnOperands : ∃ f f' : Frame,
    colorFrame { ready with red := 1 } 3 = .ok (f, Config.pDefault) ∧
    colorFrame { ready with red := 2 } 3 = .ok (f', Config.pDefault) ∧
    f[Config.rgbOff.val]? ≠ f'[Config.rgbOff.val]? := by
  refine ⟨_, _, rfl, rfl, ?_⟩
  have h : Config.rgbOff.val < 37 := by omega
  rw [List.getElem?_ofFn, List.getElem?_ofFn, dif_pos h, dif_pos h]
  simp [mux3]

/-- FrameFollowsTheMap: BAND at its bound, ROW the row of VALUE. -/
theorem test_meets_FrameFollowsTheMap : (eqBusy 0 0 0).band.toNat < 5 ∧
    (eqBusy 0 0 0).row = rowOf (eqBusy 0 0 0).value := by decide

/-- PresentFillsTheBuffer: a frame of each length, the shortest and the longest. -/
theorem test_meets_PresentFillsTheBuffer : saveFrame.length = 2 ∧ (cmdFrame 0xF0 0xF1).length = 16 ∧
    (rawFrame 3).length = 37 ∧ presaveFrame.length = 39 := ⟨rfl, rfl, rfl, rfl⟩

/-- MicSetStartsItsFrame. -/
theorem test_meets_MicSetStartsItsFrame : Ready ready := ⟨rfl, rfl⟩

/-- ReservedOpIsRecorded: the reserved OPs at the ends of their ranges. -/
theorem test_meets_ReservedOpIsRecorded : Ready ready ∧ (0x0FFFFFFF : Word).extractLsb' 28 4 = 0x0 ∧
    0x4 ≤ ((0x40000000 : Word).extractLsb' 28 4).toNat ∧ 0x4 ≤ ((0xFFFFFFFF : Word).extractLsb' 28 4).toNat :=
  ⟨⟨rfl, rfl⟩, by decide⟩

/-- EqSetStartsItsSequence: both operands at their bounds. -/
theorem test_meets_EqSetStartsItsSequence :
    (4 : BitVec 3).toNat ≤ 4 ∧ (0x30 : BitVec 8).toNat ≤ 0x30 ∧ Ready ready := ⟨by decide, by decide, rfl, rfl⟩

/-- ColorSetStartsItsSequence: the components at their bounds. -/
theorem test_meets_ColorSetStartsItsSequence :
    (255 : BitVec 9).toNat ≤ 255 ∧ (0 : BitVec 9).toNat ≤ 255 ∧ Ready ready := ⟨by decide, by decide, rfl, rfl⟩

/-- ReservedBitIsRejected: one reserved bit of each form. -/
theorem test_meets_ReservedBitIsRejected :
    Ready ready ∧ (1 : BitVec 27) ≠ 0 ∧ (0x10000 : BitVec 17) ≠ 0 ∧ (1 : BitVec 1) ≠ 0 ∧
    ((0x10000002 : Word).extractLsb' 28 4 = 0x1 ∧ (0x10000002 : Word).extractLsb' 1 27 ≠ 0) ∧
    ((0x20000800 : Word).extractLsb' 28 4 = 0x2 ∧ (0x20000800 : Word).extractLsb' 11 17 ≠ 0) ∧
    ((0x38000000 : Word).extractLsb' 28 4 = 0x3 ∧ (0x38000000 : Word).extractLsb' 27 1 ≠ 0) :=
  ⟨⟨rfl, rfl⟩, by decide⟩

/-- OperandOutOfRangeIsRejected: each operand just past its bound. -/
theorem test_meets_OperandOutOfRangeIsRejected :
    Ready ready ∧ 4 < (5 : BitVec 3).toNat ∧ 0x30 < (0x31 : BitVec 8).toNat ∧ 255 < (256 : BitVec 9).toNat :=
  ⟨⟨rfl, rfl⟩, by decide, by decide, by decide⟩

/-- InvalidArgumentExactlyWhenInvalid: a command that is rejected, and one that is accepted. -/
theorem test_meets_InvalidArgumentExactlyWhenInvalid :
    Ready ready ∧ exec (.eqSet 0 5 0x10) ready = .next (rejected .invalidArgument 0x2 ready) ∧
    (rejected .invalidArgument 0x2 ready).err = .invalidArgument ∧ ¬ Accepted (.eqSet 0 5 0x10) ∧
    (∃ t, exec (.micSet 0 1) ready = .next t ∧ t.err = .none) ∧ Accepted (.micSet 0 1) :=
  ⟨⟨rfl, rfl⟩, rfl, rfl, by simp [Accepted], ⟨_, rfl, rfl⟩, rfl⟩

/-- LinkDownRejectsEveryCommand. -/
theorem test_meets_LinkDownRejectsEveryCommand : State.reset.seq = .idle ∧ State.reset.link = false := ⟨rfl, rfl⟩

/-- BusyWriteIsDropped. -/
theorem test_meets_BusyWriteIsDropped : micBusy.seq = .busy := rfl

/-- CommandFrame: a command of each form that is accepted, one that is rejected, and one that is dropped. -/
theorem test_meets_CommandFrame :
    (∃ t, exec (.micSet 0 1) ready = .next t) ∧ (∃ t, exec (.eqSet 0 4 0x30) ready = .next t) ∧
    (∃ t, exec (.colorSet 0 255 255 255) ready = .next t) ∧
    (∃ t, exec (.reserved0 0) ready = .next t) ∧ ¬ (Ready ready ∧ Accepted (.reserved0 0)) ∧
    (∃ t, exec (.micSet 0 0) micBusy = .next t) ∧ micBusy.seq = .busy :=
  ⟨⟨_, rfl⟩, ⟨_, rfl⟩, ⟨_, rfl⟩, ⟨_, rfl⟩, fun h => h.2, ⟨_, rfl⟩, rfl⟩

/-- StepRunsTheDecodedCommand. -/
theorem test_meets_StepRunsTheDecodedCommand :
    (given micBusy [.hostWrite 0x0 32 0x10000000, .reset]).inputs = [.hostWrite 0x0 32 0x10000000, .reset] := rfl

/-- NoInputKeepsTheState. -/
theorem test_meets_NoInputKeepsTheState : micBusy.inputs = [] := rfl

/-- UnansweredFrameIsHeld: every step that is no answer and no reset. -/
theorem test_meets_UnansweredFrameIsHeld :
    (given micBusy [.hostWrite 0x0 32 0x20000018, .hostRead 0x4 32, .link false]).seq = .busy ∧
    ∀ e ∈ (given micBusy [.hostWrite 0x0 32 0x20000018, .hostRead 0x4 32, .link false]).inputs,
      e ≠ .reset ∧ ∀ r, e ≠ .respond r := ⟨rfl, by simp [given]⟩

/-- An invariant of a state that differs from another in its inputs alone. -/
theorem invariant_given {s : State} (h : Invariant s) (inputs : List Event) : Invariant (given s inputs) where
  req_iff_busy := h.req_iff_busy
  busy_frame hb := by
    obtain ⟨n, hn, hk, f, p, hf, rest⟩ := h.busy_frame hb
    exact ⟨n, hn, hk, f, p, (frame_congr rfl rfl rfl rfl rfl rfl rfl _ _).trans hf, rest⟩
  idle_idx := h.idle_idx
  opr_known := h.opr_known
  band_le := h.band_le
  value_le := h.value_le
  row_eq := h.row_eq
  done_no_error := h.done_no_error
  busy_no_record := h.busy_no_record
  failed_idx := h.failed_idx
  other_idx := h.other_idx
  none_op := h.none_op

/-- OkAnswerPresentsTheNextFrame: at the first index and at the last but one. -/
theorem test_meets_OkAnswerPresentsTheNextFrame :
    (Invariant (given (eqBusy 0 (Config.opReg 4) 0x18) [.respond .ok]) ∧
      (given (eqBusy 0 (Config.opReg 4) 0x18) [.respond .ok]).req = true ∧
      seqLength (eqBusy 0 (Config.opReg 4) 0x18).opr = some 19 ∧ (eqBusy 0 (Config.opReg 4) 0x18).idx.toNat < 19 - 1) ∧
    (Invariant (given (eqBusy 17 (Config.opReg 4) 0x30) [.respond .ok]) ∧
      (given (eqBusy 17 (Config.opReg 4) 0x30) [.respond .ok]).req = true ∧
      seqLength (eqBusy 17 (Config.opReg 4) 0x30).opr = some 19 ∧
      (eqBusy 17 (Config.opReg 4) 0x30).idx.toNat < 19 - 1) :=
  ⟨⟨invariant_given eqBusy0_invariant _, rfl, rfl, by decide⟩,
    ⟨invariant_given eqBusy17_invariant _, rfl, rfl, by decide⟩⟩

/-- OkAnswerToTheLastFrameCompletes: the one frame of MIC_SET, the last of EQ_SET and of COLOR_SET. -/
theorem test_meets_OkAnswerToTheLastFrameCompletes :
    (micBusy.req = true ∧ seqLength micBusy.opr = some 1 ∧ micBusy.idx.toNat = 1 - 1) ∧
    ((eqBusy 18 Config.opPage 0x0D).req = true ∧ seqLength (eqBusy 18 Config.opPage 0x0D).opr = some 19 ∧
      (eqBusy 18 Config.opPage 0x0D).idx.toNat = 19 - 1) ∧
    ((colorBusy 12 saveFrame Config.pSave).req = true ∧
      seqLength (colorBusy 12 saveFrame Config.pSave).opr = some 13 ∧
      (colorBusy 12 saveFrame Config.pSave).idx.toNat = 13 - 1) := by decide

/-- FailAnswerAbandons. -/
theorem test_meets_FailAnswerAbandons :
    Invariant (given (colorBusy 11 presaveFrame Config.pPresave) [.respond .fail]) ∧
    (given (colorBusy 11 presaveFrame Config.pPresave) [.respond .fail]).req = true :=
  ⟨invariant_given colorBusy11_invariant _, rfl⟩

/-- AnswerWithoutRequestIsDiscarded. -/
theorem test_meets_AnswerWithoutRequestIsDiscarded :
    (given ready [.respond .ok]).req = false ∧ (given ready [.respond .ok]).inputs = [.respond .ok] := ⟨rfl, rfl⟩

/-- StatusReadReturnsTheFields: a read and a write of STATUS. -/
theorem test_meets_StatusReadReturnsTheFields :
    (given micBusy [.hostRead 0x4 32]).inputs = [.hostRead 0x4 32] ∧
    (given micBusy [.hostWrite 0x4 32 0]).inputs = [.hostWrite 0x4 32 0] := ⟨rfl, rfl⟩

/-- OtherHostAccessesDoNothing: a narrow write of CMD, a write and a read just past the window, a read of CMD. -/
theorem test_meets_OtherHostAccessesDoNothing :
    ¬ ((0x0 : Nat) = 0x0 ∧ (16 : Nat) = 32) ∧ ¬ ((0x8 : Nat) = 0x0 ∧ (32 : Nat) = 32) ∧
    ¬ ((0x8 : Nat) = 0x4 ∧ (32 : Nat) = 32) ∧ ¬ ((0x0 : Nat) = 0x4 ∧ (32 : Nat) = 32) := by decide

/-- LinkChangesAlone: the link goes down while a frame is outstanding. -/
theorem test_meets_LinkChangesAlone : (given micBusy [.link false]).inputs = [.link false] := rfl

/-- ResetFromAnyState and AnswerAfterResetIsDiscarded: reset while a frame is outstanding, and the late answer. -/
theorem test_meets_ResetFromAnyState :
    (given micBusy [.reset, .respond .fail]).inputs = [.reset, .respond .fail] := rfl

/-- DoneChangesOnlyAsStated: DONE set, cleared by a command, cleared by reset. -/
theorem test_meets_DoneChangesOnlyAsStated :
    (step (given micBusy [.respond .ok]) = .next (after (given micBusy [.respond .ok])) ∧
      (after (given micBusy [.respond .ok])).done ≠ (given micBusy [.respond .ok]).done) ∧
    (∃ t, step (given { ready with done := true } [.hostWrite 0x0 32 0]) = .next t ∧ t.done ≠ true) ∧
    (∃ t, step (given { ready with done := true } [.reset]) = .next t ∧ t.done ≠ true) :=
  ⟨⟨rfl, by decide⟩, ⟨_, rfl, by decide⟩, ⟨_, rfl, by decide⟩⟩

/-- OvrChangesOnlyAsStated: OVR set, cleared by a command, cleared by reset. -/
theorem test_meets_OvrChangesOnlyAsStated :
    (∃ t, step (given micBusy [.hostWrite 0x0 32 0x10000001]) = .next t ∧ t.ovr ≠ micBusy.ovr) ∧
    (∃ t, step (given { ready with ovr := true } [.hostWrite 0x0 32 0x10000001]) = .next t ∧ t.ovr ≠ true) ∧
    (∃ t, step (given { ready with ovr := true } [.reset]) = .next t ∧ t.ovr ≠ true) :=
  ⟨⟨_, rfl, by decide⟩, ⟨_, rfl, by decide⟩, ⟨_, rfl, by decide⟩⟩

/-- ErrorRecordChangesOnlyAsStated: the record of a rejected command, of a failed frame, and one cleared by reset. -/
theorem test_meets_ErrorRecordChangesOnlyAsStated :
    (∃ t, step (given ready [.hostWrite 0x0 32 0]) = .next t ∧ t.err ≠ ready.err) ∧
    (∃ t, step (given micBusy [.respond .fail]) = .next t ∧ t.err ≠ micBusy.err ∧ t.errOp ≠ micBusy.errOp) ∧
    (∃ t, step (given { ready with err := .linkDown, errOp := 0xF } [.reset]) = .next t ∧ t.err ≠ .linkDown) :=
  ⟨⟨_, rfl, by decide⟩, ⟨_, rfl, by decide, by decide⟩, ⟨_, rfl, by decide⟩⟩

/-- LatchesChangeOnlyAtAcceptance: BAND latched, and the latches cleared by reset. -/
theorem test_meets_LatchesChangeOnlyAtAcceptance :
    (∃ t, step (given ready [.hostWrite 0x0 32 0x20000430]) = .next t ∧ t.band ≠ ready.band) ∧
    (∃ t, step (given micBusy [.reset]) = .next t ∧ t.en ≠ micBusy.en) :=
  ⟨⟨_, rfl, by decide⟩, ⟨_, rfl, by decide⟩⟩

/-- EveryStepKeepsTheInvariant: a state that runs reach, with a frame outstanding, and a step from it. -/
theorem test_meets_EveryStepKeepsTheInvariant :
    Invariant (given (eqBusy 0 (Config.opReg 4) 0x18) [.respond .ok]) ∧
    ∃ t, step (given (eqBusy 0 (Config.opReg 4) 0x18) [.respond .ok]) = .next t :=
  ⟨invariant_given eqBusy0_invariant _, _, rfl⟩

/-- NoStepFaults, PresentedLengthAndParameter, EveryPresentedFrameIsInTheMap, CommandFramesHaveOneByte and
ControlTransferCarriesTheFrame: a frame outstanding of each command. -/
theorem test_meets_outstanding :
    (Invariant micBusy ∧ micBusy.req = true ∧ micBusy.opr = 0x1) ∧
    (Invariant (eqBusy 17 (Config.opReg 4) 0x30) ∧ (eqBusy 17 (Config.opReg 4) 0x30).req = true ∧
      (eqBusy 17 (Config.opReg 4) 0x30).opr = 0x2) ∧
    (Invariant (colorBusy 11 presaveFrame Config.pPresave) ∧
      (colorBusy 11 presaveFrame Config.pPresave).req = true) ∧
    (Invariant (colorBusy 12 saveFrame Config.pSave) ∧ (colorBusy 12 saveFrame Config.pSave).req = true) :=
  ⟨⟨micBusy_invariant, rfl, rfl⟩, ⟨eqBusy17_invariant, rfl, rfl⟩, ⟨colorBusy11_invariant, rfl⟩,
    ⟨colorBusy12_invariant, rfl⟩⟩

/-- AnsweredCommandPresentsItsSequence: nineteen answers to eq.set 4, 0x30. -/
theorem test_meets_AnsweredCommandPresentsItsSequence :
    Ready (given ready (commandEvent (.eqSet 0 4 0x30) :: List.replicate 19 (.respond .ok))) ∧
    Accepted (.eqSet 0 4 0x30) ∧ (expectedFrames (.eqSet 0 4 0x30)).length = 19 :=
  ⟨⟨rfl, rfl⟩, ⟨rfl, by decide, by decide⟩, rfl⟩

/-- FailedCommandPresentsAPrefix: FAIL at the first frame and at the last of color.set. -/
theorem test_meets_FailedCommandPresentsAPrefix :
    Ready (given ready [commandEvent (.colorSet 0 255 0 0), .respond .fail]) ∧ Accepted (.colorSet 0 255 0 0) ∧
    0 < (expectedFrames (.colorSet 0 255 0 0)).length ∧ 12 < (expectedFrames (.colorSet 0 255 0 0)).length ∧
    (expectedFrames (.colorSet 0 255 0 0)).length = 13 :=
  ⟨⟨rfl, rfl⟩, ⟨rfl, by decide, by decide, by decide⟩, by decide, by decide, rfl⟩

/-- SequencesDependOnTheCommandAlone: a block just reset and one that an earlier failure left its record in. -/
theorem test_meets_SequencesDependOnTheCommandAlone :
    Ready (given ready [commandEvent (.micSet 0 1), .respond .ok]) ∧
    Ready (given { ready with band := 4, err := .transferFailed, errOp := 0x2, errIdx := 7 }
      [commandEvent (.micSet 0 1), .respond .ok]) ∧
    Accepted (.micSet 0 1) ∧
    (∃ t, runSteps 2 (given ready [commandEvent (.micSet 0 1), .respond .ok]) = .next t) ∧
    (∃ t, runSteps 2 (given { ready with band := 4, err := .transferFailed, errOp := 0x2, errIdx := 7 }
      [commandEvent (.micSet 0 1), .respond .ok]) = .next t) :=
  ⟨⟨rfl, rfl⟩, ⟨rfl, rfl⟩, rfl, ⟨_, rfl⟩, ⟨_, rfl⟩⟩

/-- PhaseOfEachFrame: an index for each clause, at the boundaries. -/
theorem test_meets_PhaseOfEachFrame : phase 0x2 2 = some .prologue ∧ phase 0x2 3 = some .calibration ∧
    phase 0x2 14 = some .calibration ∧ phase 0x2 15 = some .epilogue ∧ phase 0x2 18 = some .epilogue ∧
    phase 0x2 19 = none ∧ phase 0x3 10 = some .colorDefault ∧ phase 0x3 11 = some .preSave ∧
    phase 0x3 12 = some .save ∧ phase 0x1 0 = some .mic := by decide

end Sys2Proof.Tests
end

section
/-! The constraints of 00_scope.md R10 on the OPEN parameters, each read off the form of the opaque constant behind it
(log entry 4): an image under a permutation, or an element of `Fin`. -/

namespace Sys2Proof

/-- The low byte of a band's number is the number itself, since 5 ≤ 256, and the opcode permutation keeps bytes apart. -/
theorem Config.opReg_injective : Function.Injective Config.opReg := by
  intro b b' h
  have hbyte : BitVec.ofNat 8 b.val = BitVec.ofNat 8 b'.val := Config.opRegCode.injective h
  have hval : b.val % 2 ^ 8 = b'.val % 2 ^ 8 := by simpa using congrArg BitVec.toNat hbyte
  exact Fin.ext (by omega)

theorem Config.pDefault_ne_pPresave : Config.pDefault ≠ Config.pPresave :=
  Config.paramCode.injective.ne (by decide)

theorem Config.pDefault_ne_pSave : Config.pDefault ≠ Config.pSave :=
  Config.paramCode.injective.ne (by decide)

theorem Config.pPresave_ne_pSave : Config.pPresave ≠ Config.pSave :=
  Config.paramCode.injective.ne (by decide)

/-- The three bytes from RGB_OFF on end inside the 37 bytes of Raw Frame 3. -/
theorem Config.rgbOff_add_three_le : Config.rgbOff.val + 3 ≤ 37 := by
  have hoff : Config.rgbOff.val < 35 := Config.rgbOff.isLt
  omega

/-- Settles O10: injectivity of the two permutations keeps the opcodes and the parameters apart, and the bound of
`Fin 35` keeps the colour bytes inside the frame. -/
theorem openParametersKeepConstraints : Obligations.OpenParametersKeepConstraints :=
  ⟨fun _ _ h => Config.opReg_injective h, Config.pDefault_ne_pPresave, Config.pDefault_ne_pSave,
    Config.pPresave_ne_pSave, Config.rgbOff_add_three_le⟩

end Sys2Proof
end

section
/-! What 10_state.md says of STATUS, LINK, the phases and the state after reset (R35, R38, R46, R48), and that a step takes a
command from CMD (R37). -/

namespace Sys2Proof.Machine

/-- Settles O26: a 32-bit write at offset 0 is routed as a command. -/
theorem stepRunsTheDecodedCommand : Obligations.StepRunsTheDecodedCommand := fun _ _ _ h => step_cons h

/-- Settles O35: the step routes the level to LINK alone, with or without a frame outstanding. -/
theorem linkChangesAlone : Obligations.LinkChangesAlone := fun _ _ _ h => step_cons h

theorem step_hostRead {s : State} {o n : Nat} {rest : List Event} (h : s.inputs = .hostRead o n :: rest) :
    step s = .next (hostRead o n { s with inputs := rest }) := step_cons h

/-- A write that is no 32-bit write of CMD is ignored (R57). -/
theorem step_hostWrite_other {s : State} {o n : Nat} {w : Word} {rest : List Event}
    (h : s.inputs = .hostWrite o n w :: rest) (hcmd : ¬ (o = 0x0 ∧ n = 32)) :
    step s = .next { s with inputs := rest } := by
  simp [step_cons h, route, cmdOffset, hcmd]

/-- The fields of `statusWord` in a word typed by the sum of their widths, where the laws of `++` apply. -/
def statusFields (s : State) : BitVec (3 + 5 + 4 + 3 + 5 + 4 + 4 + 1 + 1 + 1 + 1) :=
  0#3 ++ s.idx ++ s.opr ++ 0#3 ++ s.errIdx ++ s.errOp ++ errorCode s.err
    ++ BitVec.ofBool s.link ++ BitVec.ofBool s.ovr ++ BitVec.ofBool s.done ++ BitVec.ofBool (busyBit s)

section
variable (s : State)

theorem getLsbD_statusWord (i : Nat) : (statusWord s).getLsbD i = (statusFields s).getLsbD i := rfl

theorem extractLsb'_statusWord (start len : Nat) :
    (statusWord s).extractLsb' start len = (statusFields s).extractLsb' start len := rfl

/-- The flags of STATUS: BUSY, DONE, OVR and LINK in bits 0 to 3 (R38). -/
theorem statusWord_flags :
    ((statusWord s).getLsbD 0 = true ↔ s.seq = .busy) ∧ (statusWord s).getLsbD 1 = s.done ∧
    (statusWord s).getLsbD 2 = s.ovr ∧ (statusWord s).getLsbD 3 = s.link := by
  simp only [getLsbD_statusWord, statusFields, BitVec.getLsbD_append]
  simp [busyBit]

/-- The fields of STATUS above its flags, each reached by leaving the narrower fields below it (R38). -/
theorem statusWord_fields :
    (statusWord s).extractLsb' 4 4 = errorCode s.err ∧ (statusWord s).extractLsb' 8 4 = s.errOp ∧
    (statusWord s).extractLsb' 12 5 = s.errIdx ∧ (statusWord s).extractLsb' 17 3 = 0#3 ∧
    (statusWord s).extractLsb' 20 4 = s.opr ∧ (statusWord s).extractLsb' 24 5 = s.idx ∧
    (statusWord s).extractLsb' 29 3 = 0#3 := by
  simp (disch := decide) only [extractLsb'_statusWord, statusFields, BitVec.extractLsb'_append_eq_of_le,
    BitVec.extractLsb'_append_eq_of_add_le, Nat.reduceSub, BitVec.extractLsb'_eq_self, and_self]

end

/-- Settles O33: the word read is `statusWord`, whose flags and fields stand in their bits. -/
theorem statusReadReturnsTheFields : Obligations.StatusReadReturnsTheFields := by
  refine ⟨fun s rest h => ?_, fun _ _ _ h => step_hostWrite_other h (by decide)⟩
  obtain ⟨hbusy, hdone, hovr, hlink⟩ := statusWord_flags s
  exact ⟨statusWord s, step_hostRead h, hbusy, hdone, hovr, hlink, statusWord_fields s⟩

@[simp] theorem reset_fb_getElem (i : Nat) (h : i < 39) : State.reset.fb[i] = 0x00 := Vector.getElem_replicate h

/-- Settles O42: the reset state is a literal; of the buffer each byte is the replicated 0x00. -/
theorem resetStateValues : Obligations.ResetStateValues :=
  ⟨rfl, rfl, rfl, rfl, rfl, rfl, rfl, rfl, rfl, rfl, reset_fb_getElem, rfl, rfl, rfl, rfl, rfl, rfl, rfl, rfl⟩

/-- The phases of EQ_SET (R46, R112). -/
theorem phase_eqSet (k : BitVec 5) : phase 0x2 k =
    if k.toNat ≤ 2 then some .prologue else if k.toNat ≤ 14 then some .calibration
    else if k.toNat ≤ 18 then some .epilogue else none := rfl

/-- The phases of COLOR_SET (R46, R126). -/
theorem phase_colorSet (k : BitVec 5) : phase 0x3 k =
    if k.toNat ≤ 10 then some .colorDefault else if k.toNat = 11 then some .preSave
    else if k.toNat = 12 then some .save else none := rfl

/-- The phase of MIC_SET (R46). -/
theorem phase_micSet (k : BitVec 5) : phase 0x1 k = if k.toNat = 0 then some .mic else none := rfl

/-- Settles O53: in each range of indices the tests of `phase` before the range fail and the range's own succeeds. -/
theorem phaseOfEachFrame : Obligations.PhaseOfEachFrame := by
  intro k
  refine ⟨fun hle => ?_, fun hge hle => ?_, fun hge hle => ?_, fun hle => ?_, fun heq => ?_, fun heq => ?_, fun heq => ?_⟩
  · rw [phase_eqSet, if_pos hle]
  · rw [phase_eqSet, if_neg (by omega), if_pos hle]
  · rw [phase_eqSet, if_neg (by omega), if_neg (by omega), if_pos hle]
  · rw [phase_colorSet, if_pos hle]
  · rw [phase_colorSet, if_neg (by omega), if_pos heq]
  · rw [phase_colorSet, if_neg (by omega), if_neg (by omega), if_pos heq]
  · rw [phase_micSet, if_pos heq]

end Sys2Proof.Machine
end

section
/-! The length and the transfer parameter of the frame held while REQ = 1 (R32, R33). -/

namespace Sys2Proof.Machine

/-- p is P_DEFAULT, P_PRESAVE or P_SAVE (R33). -/
def KnownParam (p : Param) : Prop := p = Config.pDefault ∨ p = Config.pPresave ∨ p = Config.pSave

theorem colorFrame_param {s : State} {k : Nat} {f : Frame} {p : Param} (h : colorFrame s k = .ok (f, p)) :
    KnownParam p := by
  unfold colorFrame at h
  split at h
  · cases h; exact .inl rfl
  split at h
  · cases h; exact .inl rfl
  split at h
  · cases h; exact .inr (.inl rfl)
  split at h
  · cases h; exact .inr (.inr rfl)
  · cases h

/-- A frame given the parameter p has the parameter p. -/
theorem param_of_map_eq_ok {x : Except Fault Frame} {f : Frame} {p q : Param}
    (h : x.map (fun f => (f, p)) = .ok (f, q)) : q = p := by
  cases x with
  | error e => cases h
  | ok g => cases h; rfl

/-- The parameters a frame can have (R33). -/
theorem frame_param {s : State} {op : BitVec 4} {k : Nat} {f : Frame} {p : Param} (h : frame s op k = .ok (f, p)) :
    KnownParam p := by
  unfold frame at h
  split at h
  · exact .inl (param_of_map_eq_ok h)
  split at h
  · exact .inl (param_of_map_eq_ok h)
  split at h
  · exact colorFrame_param h
  · cases h

/-- While REQ = 1 the buffer holds FRAME(OPR, IDX) (R158). -/
theorem Invariant.frameHeld {s : State} (hinv : Invariant s) (hreq : s.req = true) : FrameHeld s := by
  obtain ⟨_, _, _, hheld⟩ := hinv.busy_frame (hinv.req_iff_busy.mp hreq)
  exact hheld

/-- Settles O46: by the invariant FLEN and FPARAM are those of a frame FRAME gives, and a frame has one of four lengths
and one of three parameters. -/
theorem presentedLengthAndParameter : Obligations.PresentedLengthAndParameter := by
  intro s hinv hreq
  obtain ⟨f, p, hf, -, hlen, hparam⟩ := hinv.frameHeld hreq
  refine ⟨?_, hparam ▸ frame_param hf⟩
  rcases frame_length hf with h | h | h | h <;> simp [hlen, h]

end Sys2Proof.Machine
end

section
/-! Who may change what in one step: DONE (R40), OVR (R41), and OPR with the latches (R22, R25). For each, what a command
and what an answer can do to it, then every step. -/

namespace Sys2Proof.Machine

/-- OPR and the latches are the same in both states; by default each holds by unfolding. -/
structure SameLatches (s t : State) : Prop where
  opr : t.opr = s.opr := by rfl
  band : t.band = s.band := by rfl
  value : t.value = s.value := by rfl
  row : t.row = s.row := by rfl
  red : t.red = s.red := by rfl
  green : t.green = s.green := by rfl
  blue : t.blue = s.blue := by rfl
  en : t.en = s.en := by rfl

/-- The inputs are no latch. -/
theorem SameLatches.of_inputs {s t : State} {rest : List Event} (h : SameLatches { s with inputs := rest } t) :
    SameLatches s t := { h with }

/-- What an answer can do, with the two outcomes of an OK told apart (R151 to R154, R186). -/
theorem transportRespond_cases {r : Response} {s t : State} (h : transportRespond r s = .next t) :
    (s.req = false ∧ t = s) ∨
    (s.req = true ∧ r = .ok ∧ (∃ n, seqLength s.opr = some n ∧ s.idx.toNat = n - 1) ∧
      t = goIdle { s with log := s.log ++ [.answered .ok], done := true }) ∨
    (s.req = true ∧ r = .ok ∧
      ∃ f p, t = present f p { s with log := s.log ++ [.answered .ok], idx := s.idx + 1 }) ∨
    (s.req = true ∧ r = .fail ∧ t = answerFail { s with log := s.log ++ [.answered .fail] }) := by
  rcases transportRespond_next h with hnone | ⟨hreq, hr, hok⟩ | hfail
  · exact .inl hnone
  · obtain ⟨n, hn, ⟨hlast, ht⟩ | ⟨-, f, p, -, ht⟩⟩ := answerOk_next hok
    · exact .inr (.inl ⟨hreq, hr, ⟨n, hn, hlast⟩, ht⟩)
    · exact .inr (.inr (.inl ⟨hreq, hr, f, p, ht⟩))
  · exact .inr (.inr (.inr hfail))

/-- An answer changes DONE only by an OK to the last frame, which sets it (R153). -/
theorem transportRespond_done {r : Response} {s t : State} (h : transportRespond r s = .next t) :
    t.done = s.done ∨
    (t.done = true ∧ r = .ok ∧ s.req = true ∧ ∃ n, seqLength s.opr = some n ∧ s.idx.toNat = n - 1) := by
  rcases transportRespond_cases h with ⟨-, rfl⟩ | ⟨hreq, hr, hlast, rfl⟩ | ⟨-, -, f, p, rfl⟩ | ⟨-, -, rfl⟩
  · exact .inl rfl
  · exact .inr ⟨rfl, hr, hreq, hlast⟩
  · exact .inl rfl
  · exact .inl rfl

theorem transportRespond_ovr {r : Response} {s t : State} (h : transportRespond r s = .next t) : t.ovr = s.ovr := by
  rcases transportRespond_cases h with ⟨-, rfl⟩ | ⟨-, -, -, rfl⟩ | ⟨-, -, f, p, rfl⟩ | ⟨-, -, rfl⟩ <;> rfl

theorem transportRespond_sameLatches {r : Response} {s t : State} (h : transportRespond r s = .next t) :
    SameLatches s t := by
  rcases transportRespond_cases h with ⟨-, rfl⟩ | ⟨-, -, -, rfl⟩ | ⟨-, -, f, p, rfl⟩ | ⟨-, -, rfl⟩ <;>
    exact {}

/-- A command is dropped by a busy block, which keeps DONE, or clears it (R144, R145). -/
theorem exec_done {i : Instr} {s t : State} (h : exec i s = .next t) :
    t.done = s.done ∨ (t.done = false ∧ s.seq = .idle) := by
  rcases exec_next h with ⟨-, rfl⟩ | ⟨hidle, -, rfl⟩ | ⟨⟨hidle, -⟩, -, rfl⟩ | ⟨⟨hidle, -⟩, -, f, p, -, rfl⟩
  · exact .inl rfl
  · exact .inr ⟨rfl, hidle⟩
  · exact .inr ⟨rfl, hidle⟩
  · exact .inr ⟨by simp, hidle⟩

/-- A command sets OVR in a busy block and clears it in an idle one (R144, R145). -/
theorem exec_ovr {i : Instr} {s t : State} (h : exec i s = .next t) :
    (t.ovr = true ∧ s.seq = .busy) ∨ (t.ovr = false ∧ s.seq = .idle) := by
  rcases exec_next h with ⟨hbusy, rfl⟩ | ⟨hidle, -, rfl⟩ | ⟨⟨hidle, -⟩, -, rfl⟩ | ⟨⟨hidle, -⟩, -, f, p, -, rfl⟩
  · exact .inl ⟨rfl, hbusy⟩
  · exact .inr ⟨rfl, hidle⟩
  · exact .inr ⟨rfl, hidle⟩
  · exact .inr ⟨by simp, hidle⟩

/-- A command that is dropped or rejected latches nothing (R144, R146). -/
theorem exec_sameLatches {i : Instr} {s t : State} (h : exec i s = .next t) :
    SameLatches s t ∨ (Ready s ∧ Accepted i) := by
  rcases exec_next h with ⟨-, rfl⟩ | ⟨-, -, rfl⟩ | ⟨-, -, rfl⟩ | ⟨hready, hacc, -⟩
  · exact .inl {}
  · exact .inl {}
  · exact .inl {}
  · exact .inr ⟨hready, hacc⟩

/-- Settles O38: by the environment's next step; a command, an OK to the last frame and a reset are all that is left when
DONE changes. -/
theorem doneChangesOnlyAsStated : Obligations.DoneChangesOnlyAsStated := by
  intro s t hstep hne
  rcases step_next hstep with ⟨-, rfl⟩ | ⟨w, rest, hin, hexec⟩ | ⟨o, n, w, rest, -, -, rfl⟩ | ⟨o, n, rest, -, rfl⟩ |
    ⟨r, rest, hin, hresp⟩ | ⟨up, rest, -, rfl⟩ | ⟨rest, hin, rfl⟩
  · exact absurd rfl hne
  · obtain ⟨hdone, hidle⟩ := (exec_done hexec).resolve_left hne
    exact .inr (.inl ⟨hdone, hidle, w, rest, hin⟩)
  · exact absurd rfl hne
  · exact absurd rfl hne
  · obtain ⟨hdone, rfl, hreq, n, hn, hlast⟩ := (transportRespond_done hresp).resolve_left hne
    exact .inl ⟨hdone, rest, n, hin, hreq, hn, hlast⟩
  · exact absurd rfl hne
  · exact .inr (.inr ⟨rfl, rest, hin⟩)

/-- Settles O39: by the environment's next step; a command and a reset are all that is left when OVR changes. -/
theorem ovrChangesOnlyAsStated : Obligations.OvrChangesOnlyAsStated := by
  intro s t hstep hne
  rcases step_next hstep with ⟨-, rfl⟩ | ⟨w, rest, hin, hexec⟩ | ⟨o, n, w, rest, -, -, rfl⟩ | ⟨o, n, rest, -, rfl⟩ |
    ⟨r, rest, -, hresp⟩ | ⟨up, rest, -, rfl⟩ | ⟨rest, hin, rfl⟩
  · exact absurd rfl hne
  · rcases exec_ovr hexec with ⟨hovr, hbusy⟩ | ⟨hovr, hidle⟩
    · exact .inl ⟨hovr, hbusy, w, rest, hin⟩
    · exact .inr (.inl ⟨hovr, hidle, w, rest, hin⟩)
  · exact absurd rfl hne
  · exact absurd rfl hne
  · exact absurd (transportRespond_ovr hresp) hne
  · exact absurd rfl hne
  · exact .inr (.inr ⟨rfl, rest, hin⟩)

/-- Every step but an acceptance and a reset keeps OPR and the latches (R22, R25). -/
theorem step_sameLatches {s t : State} (hstep : step s = .next t) :
    SameLatches s t ∨ (Ready s ∧ ∃ w rest, s.inputs = .hostWrite 0x0 32 w :: rest ∧ Accepted (decode w)) ∨
    (∃ rest, s.inputs = .reset :: rest) := by
  rcases step_next hstep with ⟨-, rfl⟩ | ⟨w, rest, hin, hexec⟩ | ⟨o, n, w, rest, -, -, rfl⟩ | ⟨o, n, rest, -, rfl⟩ |
    ⟨r, rest, -, hresp⟩ | ⟨up, rest, -, rfl⟩ | ⟨rest, hin, -⟩
  · exact .inl {}
  · rcases exec_sameLatches hexec with hsame | ⟨hready, hacc⟩
    · exact .inl hsame.of_inputs
    · exact .inr (.inl ⟨hready, w, rest, hin, hacc⟩)
  · exact .inl {}
  · exact .inl {}
  · exact .inl (transportRespond_sameLatches hresp).of_inputs
  · exact .inl {}
  · exact .inr (.inr ⟨rest, hin⟩)

/-- Settles O41: a change of OPR or a latch is what `step_sameLatches` rules out of every other step. -/
theorem latchesChangeOnlyAtAcceptance : Obligations.LatchesChangeOnlyAtAcceptance := by
  intro s t hstep hchange
  refine (step_sameLatches hstep).resolve_left fun hsame => ?_
  obtain ⟨hopr, hband, hvalue, hrow, hred, hgreen, hblue, hen⟩ := hsame
  simp [hopr, hband, hvalue, hrow, hred, hgreen, hblue, hen] at hchange

end Sys2Proof.Machine
end

section
/-! The host accesses that 20_memory.md leaves undefined but for R57: what they return and that they do nothing. -/

namespace Sys2Proof.Machine

/-- A read that is no 32-bit read of STATUS returns 0 (R57). -/
theorem hostReadValue_other {o n : Nat} (s : State) (hstatus : ¬ (o = 0x4 ∧ n = 32)) :
    hostReadValue o n s = 0x00000000 := if_neg hstatus

/-- A read that is no 32-bit read of STATUS only adds the 0 it returns to the observer's record (R57). -/
theorem hostRead_other {o n : Nat} (s : State) (hstatus : ¬ (o = 0x4 ∧ n = 32)) :
    hostRead o n s = { s with log := s.log ++ [.readBack o n 0x00000000] } := by
  rw [hostRead, hostReadValue_other s hstatus]

/-- Settles O34: such a write is no command, and such a read returns 0. -/
theorem otherHostAccessesDoNothing : Obligations.OtherHostAccessesDoNothing := by
  intro s o n rest
  constructor
  · intro w hin hcmd
    exact step_hostWrite_other hin hcmd
  · intro hin hstatus
    rw [step_hostRead hin, hostRead_other _ hstatus]

end Sys2Proof.Machine
end

section
/-! The decoder and the encoder (30_encoding.md R73 to R81, R98): one equation of `decode` for each OP, the fields of each
command's word, and that either function undoes the other. -/

namespace Sys2Proof

/-- An OP is one of the three commands' or lies in one of the three reserved ranges (R75, R81). -/
theorem op_cases (op : BitVec 4) :
    op = 0x1#4 ∨ op = 0x2#4 ∨ op = 0x3#4 ∨ op = 0x0#4 ∨ (∃ sub : BitVec 2, op = 0x1#2 ++ sub) ∨
      (∃ sub : BitVec 3, op = 0x1#1 ++ sub) := by
  revert op
  decide

section
variable {w : Word}

theorem decode_of_op_micSet (h : opField w = 0x1#4) : decode w = .micSet (w.extractLsb' 1 27) (w.extractLsb' 0 1) := by
  simp [decode, h]

theorem decode_of_op_eqSet (h : opField w = 0x2#4) :
    decode w = .eqSet (w.extractLsb' 11 17) (w.extractLsb' 8 3) (w.extractLsb' 0 8) := by
  simp [decode, h]

theorem decode_of_op_colorSet (h : opField w = 0x3#4) :
    decode w = .colorSet (w.extractLsb' 27 1) (w.extractLsb' 18 9) (w.extractLsb' 9 9) (w.extractLsb' 0 9) := by
  simp [decode, h]

theorem decode_of_op_reserved0 (h : opField w = 0x0#4) : decode w = .reserved0 (w.extractLsb' 0 28) := by
  simp [decode, h]

theorem decode_of_op_reserved4to7 {sub : BitVec 2} (h : opField w = 0x1#2 ++ sub) :
    decode w = .reserved4to7 sub (w.extractLsb' 0 28) := by
  have hop : ∀ sub : BitVec 2, let op : BitVec 4 := 0x1#2 ++ sub
      op ≠ 0x1 ∧ op ≠ 0x2 ∧ op ≠ 0x3 ∧ op ≠ 0x0 ∧ op < 0x8 ∧ op.extractLsb' 0 2 = sub := by decide
  obtain ⟨h1, h2, h3, h0, hlt, hsub⟩ := hop sub
  simp only [decode, h, h1, h2, h3, h0, hlt, hsub, if_true, if_false]

theorem decode_of_op_reserved8toF {sub : BitVec 3} (h : opField w = 0x1#1 ++ sub) :
    decode w = .reserved8toF sub (w.extractLsb' 0 28) := by
  have hop : ∀ sub : BitVec 3, let op : BitVec 4 := 0x1#1 ++ sub
      op ≠ 0x1 ∧ op ≠ 0x2 ∧ op ≠ 0x3 ∧ op ≠ 0x0 ∧ ¬ op < 0x8 ∧ op.extractLsb' 0 3 = sub := by decide
  obtain ⟨h1, h2, h3, h0, hge, hsub⟩ := hop sub
  simp only [decode, h, h1, h2, h3, h0, hge, hsub, if_false]

end

/-- The word of a command carries its OP in bits 31:28 (R73). -/
@[simp] theorem opField_encode (i : Instr) : opField (encode i) = i.op := by
  cases i with
  | micSet resv en => exact Laws.OpNibble.micSet resv en
  | eqSet resv band value => exact Laws.OpNibble.eqSet resv band value
  | colorSet resv red green blue => exact Laws.OpNibble.colorSet resv red green blue
  | reserved0 rest => exact Laws.OpNibble.reserved0 rest
  | reserved4to7 sub rest => exact Laws.OpNibble.reserved4to7 sub rest
  | reserved8toF sub rest => exact Laws.OpNibble.reserved8toF sub rest

/-! A field of a word, read from the bit layout that gives the word (R76 to R78, R81). Each layout is typed by the sum of its
widths, where the laws of `++` apply. -/

section
variable (start len : Nat)

theorem extractLsb'_encode_micSet (resv : BitVec 27) (en : BitVec 1) :
    (encode (.micSet resv en)).extractLsb' start len =
      (0x1#4 ++ resv ++ en : BitVec (4 + 27 + 1)).extractLsb' start len := rfl

theorem extractLsb'_encode_eqSet (resv : BitVec 17) (band : BitVec 3) (value : BitVec 8) :
    (encode (.eqSet resv band value)).extractLsb' start len =
      (0x2#4 ++ resv ++ band ++ value : BitVec (4 + 17 + 3 + 8)).extractLsb' start len := rfl

theorem extractLsb'_encode_colorSet (resv : BitVec 1) (red green blue : BitVec 9) :
    (encode (.colorSet resv red green blue)).extractLsb' start len =
      (0x3#4 ++ resv ++ red ++ green ++ blue : BitVec (4 + 1 + 9 + 9 + 9)).extractLsb' start len := rfl

end

/-- Settles O1: the word's OP picks the decoder's branch, and there each field is read from where the encoder put it. -/
theorem decodeOfEncode : Obligations.DecodeOfEncode := by
  intro i
  have hop := opField_encode i
  cases i with
  | micSet resv en =>
    rw [decode_of_op_micSet hop]
    simp (disch := decide) only [extractLsb'_encode_micSet, BitVec.extractLsb'_append_eq_of_le,
      BitVec.extractLsb'_append_eq_right, Nat.reduceSub]
  | eqSet resv band value =>
    rw [decode_of_op_eqSet hop]
    simp (disch := decide) only [extractLsb'_encode_eqSet, BitVec.extractLsb'_append_eq_of_le,
      BitVec.extractLsb'_append_eq_right, Nat.reduceSub]
  | colorSet resv red green blue =>
    rw [decode_of_op_colorSet hop]
    simp (disch := decide) only [extractLsb'_encode_colorSet, BitVec.extractLsb'_append_eq_of_le,
      BitVec.extractLsb'_append_eq_right, Nat.reduceSub]
  | reserved0 rest =>
    rw [decode_of_op_reserved0 hop]
    exact congrArg _ BitVec.extractLsb'_append_eq_right
  | reserved4to7 sub rest =>
    rw [decode_of_op_reserved4to7 hop]
    exact congrArg _ (BitVec.extractLsb'_append_eq_right (a := 0x1#2 ++ sub))
  | reserved8toF sub rest =>
    rw [decode_of_op_reserved8toF hop]
    exact congrArg _ (BitVec.extractLsb'_append_eq_right (a := 0x1#1 ++ sub))

/-- Adjacent fields of a word, joined, are the field of both. -/
theorem extractLsb'_join (w : Word) (lo a b : Nat) :
    w.extractLsb' (lo + a) b ++ w.extractLsb' lo a = w.extractLsb' lo (b + a) :=
  BitVec.extractLsb'_append_extractLsb'_eq_extractLsb' rfl

/-- A word is its OP and the other 28 bits. -/
theorem opField_append_rest (w : Word) : opField w ++ w.extractLsb' 0 28 = w :=
  BitVec.extractLsb'_append_extractLsb'

/-- Settles O2: the OP picks the form, and the fields the decoder cuts out are adjacent, so the encoder joins them to the
word again. -/
theorem encodeOfDecode : Obligations.EncodeOfDecode := by
  intro w
  rcases op_cases (opField w) with h | h | h | h | ⟨sub, h⟩ | ⟨sub, h⟩
  · rw [decode_of_op_micSet h, encode, ← h, opField, extractLsb'_join w 1 27 4]
    exact BitVec.extractLsb'_append_extractLsb'
  · rw [decode_of_op_eqSet h, encode, ← h, opField, extractLsb'_join w 11 17 4, extractLsb'_join w 8 3 21]
    exact BitVec.extractLsb'_append_extractLsb'
  · rw [decode_of_op_colorSet h, encode, ← h, opField, extractLsb'_join w 27 1 4, extractLsb'_join w 18 9 5,
      extractLsb'_join w 9 9 14]
    exact BitVec.extractLsb'_append_extractLsb'
  · rw [decode_of_op_reserved0 h, encode, ← h]
    exact opField_append_rest w
  · rw [decode_of_op_reserved4to7 h, encode, ← h]
    exact opField_append_rest w
  · rw [decode_of_op_reserved8toF h, encode, ← h]
    exact opField_append_rest w

/-- The decoder keeps OP (R80). -/
theorem op_decode (w : Word) : (decode w).op = opField w := by
  rw [← opField_encode, encodeOfDecode w]

/-- A command of none of the three OPs is of a reserved row: ill-formed, and without a sequence (R81). -/
theorem reserved_of_op {i : Instr} (h1 : i.op ≠ 0x1) (h2 : i.op ≠ 0x2) (h3 : i.op ≠ 0x3) :
    i.wellFormed = false ∧ Machine.expectedFrames i = [] := by
  cases i with
  | micSet resv en => exact absurd rfl h1
  | eqSet resv band value => exact absurd rfl h2
  | colorSet resv red green blue => exact absurd rfl h3
  | reserved0 rest => exact ⟨rfl, rfl⟩
  | reserved4to7 sub rest => exact ⟨rfl, rfl⟩
  | reserved8toF sub rest => exact ⟨rfl, rfl⟩

/-- Settles O3: the equations of the decoder, and that it keeps OP. -/
theorem decodeReadsFields : Obligations.DecodeReadsFields := by
  intro w
  refine ⟨decode_of_op_micSet, decode_of_op_eqSet, decode_of_op_colorSet, fun h1 h2 h3 => ?_⟩
  have hop : (decode w).op = w.extractLsb' 28 4 := op_decode w
  obtain ⟨hform, hframes⟩ := reserved_of_op (hop ▸ h1) (hop ▸ h2) (hop ▸ h3)
  exact ⟨hform, hframes, hop⟩

/-- The bits of a row's mask or pattern that the table fixes all lie in OP: it is its top nibble with zeros after it. -/
theorem opcodeRow_nibbles (k : Fin 6) :
    opcodeRows[k].mask = opField opcodeRows[k].mask ++ 0#28 ∧
    opcodeRows[k].pattern = opField opcodeRows[k].pattern ++ 0#28 := by
  revert k
  decide

/-- A mask of the top nibble compares OP alone. -/
theorem and_topNibble_eq_iff (w : Word) (m p : BitVec 4) : w &&& (m ++ 0#28) = p ++ 0#28 ↔ opField w &&& m = p := by
  conv_lhs => rw [← opField_append_rest w, BitVec.and_append, BitVec.and_zero, BitVec.append_left_inj]

/-- A command's OP meets the mask and the pattern of its own row of the table, and of no other (R75). -/
theorem op_fits_iff_row (i : Instr) (k : Fin 6) :
    i.op &&& opField opcodeRows[k].mask = opField opcodeRows[k].pattern ↔ i.row = k := by
  cases i with
  | micSet | eqSet | colorSet | reserved0 =>
    simp only [Instr.op, Instr.row]
    revert k
    decide
  | reserved4to7 sub _ | reserved8toF sub _ =>
    simp only [Instr.op, Instr.row]
    revert sub k
    decide

/-- Settles O4: a row's mask reads OP alone, which the decoder keeps and `op_fits_iff_row` compares. -/
theorem everyWordHasOneRow : Obligations.EveryWordHasOneRow := by
  intro w k r hr
  obtain ⟨hk, rfl⟩ := List.getElem?_eq_some_iff.mp hr
  obtain ⟨hmask, hpattern⟩ := opcodeRow_nibbles ⟨k, hk⟩
  have hrow := op_fits_iff_row (decode w) ⟨k, hk⟩
  rw [op_decode, ← and_topNibble_eq_iff, ← hmask, ← hpattern] at hrow
  rw [OpcodeRow.fits, beq_iff_eq]
  exact hrow

end Sys2Proof
end

section
/-! The assembler and the disassembler (30_encoding.md R93 to R97): the word of each form, and the one form of each word. -/

namespace Sys2Proof.Machine

/-! An operand taken from a field fits it, so the line made of fields assembles to the command with those fields. -/

theorem assemble_micSet_toNat (en : BitVec 1) : assemble (.micSet en.toNat) = some (encode (.micSet 0 en)) := by
  have hen : en.toNat < 2 := en.isLt
  simp [assemble, hen]

theorem assemble_eqSet_toNat (band : BitVec 3) (value : BitVec 8) :
    assemble (.eqSet band.toNat value.toNat) = some (encode (.eqSet 0 band value)) := by
  have hband : band.toNat < 8 := band.isLt
  have hvalue : value.toNat < 256 := value.isLt
  simp [assemble, hband, hvalue]

theorem assemble_colorSet_toNat (red green blue : BitVec 9) :
    assemble (.colorSet red.toNat green.toNat blue.toNat) = some (encode (.colorSet 0 red green blue)) := by
  have hred : red.toNat < 512 := red.isLt
  have hgreen : green.toNat < 512 := green.isLt
  have hblue : blue.toNat < 512 := blue.isLt
  simp [assemble, hred, hgreen, hblue]

theorem assemble_word_toNat (w : Word) : assemble (.word w.toNat) = some w := by
  rw [assemble, if_pos w.isLt, BitVec.ofNat_toNat, BitVec.setWidth_eq]

/-- The line is the word's own form: it is what the disassembler gives, it assembles to the word, and it is no `.word` line
(R96). -/
structure IsOwnLine (w : Word) (line : AsmLine) : Prop where
  wellFormed : (decode w).wellFormed = true
  disassembles : disassemble w = line
  assembles : assemble line = some w
  not_word : line ≠ .word w.toNat

section
variable {w : Word}

/-- The word of OP 1 with zero reserved bits has the line of its field (R76, R96). -/
theorem isOwnLine_micSet (hop : opField w = 0x1#4) (hresv : w.extractLsb' 1 27 = 0) :
    IsOwnLine w (.micSet (w.extractLsb' 0 1).toNat) := by
  have hdecode := hresv ▸ decode_of_op_micSet hop
  constructor
  · simp [hdecode, Instr.wellFormed]
  · simp [disassemble, hdecode]
  · rw [assemble_micSet_toNat, ← hdecode, encodeOfDecode w]
  · exact AsmLine.noConfusion

/-- The word of OP 2 with zero reserved bits has the line of its fields (R77, R96). -/
theorem isOwnLine_eqSet (hop : opField w = 0x2#4) (hresv : w.extractLsb' 11 17 = 0) :
    IsOwnLine w (.eqSet (w.extractLsb' 8 3).toNat (w.extractLsb' 0 8).toNat) := by
  have hdecode := hresv ▸ decode_of_op_eqSet hop
  constructor
  · simp [hdecode, Instr.wellFormed]
  · simp [disassemble, hdecode]
  · rw [assemble_eqSet_toNat, ← hdecode, encodeOfDecode w]
  · exact AsmLine.noConfusion

/-- The word of OP 3 with its reserved bit zero has the line of its fields (R78, R96). -/
theorem isOwnLine_colorSet (hop : opField w = 0x3#4) (hresv : w.extractLsb' 27 1 = 0) :
    IsOwnLine w (.colorSet (w.extractLsb' 18 9).toNat (w.extractLsb' 9 9).toNat (w.extractLsb' 0 9).toNat) := by
  have hdecode := hresv ▸ decode_of_op_colorSet hop
  constructor
  · simp [hdecode, Instr.wellFormed]
  · simp [disassemble, hdecode]
  · rw [assemble_colorSet_toNat, ← hdecode, encodeOfDecode w]
  · exact AsmLine.noConfusion

/-- A word of no defined OP, or with a reserved bit set, decodes to an ill-formed command (R81, R82). -/
theorem wellFormed_decode_eq_false (h1 : ¬ (opField w = 0x1 ∧ w.extractLsb' 1 27 = 0))
    (h2 : ¬ (opField w = 0x2 ∧ w.extractLsb' 11 17 = 0)) (h3 : ¬ (opField w = 0x3 ∧ w.extractLsb' 27 1 = 0)) :
    (decode w).wellFormed = false := by
  rcases op_cases (opField w) with h | h | h | h | ⟨sub, h⟩ | ⟨sub, h⟩
  · rw [decode_of_op_micSet h]
    exact beq_false_of_ne fun hresv => h1 ⟨h, hresv⟩
  · rw [decode_of_op_eqSet h]
    exact beq_false_of_ne fun hresv => h2 ⟨h, hresv⟩
  · rw [decode_of_op_colorSet h]
    exact beq_false_of_ne fun hresv => h3 ⟨h, hresv⟩
  · rw [decode_of_op_reserved0 h, Instr.wellFormed]
  · rw [decode_of_op_reserved4to7 h, Instr.wellFormed]
  · rw [decode_of_op_reserved8toF h, Instr.wellFormed]

/-- The word of an ill-formed command is printed whole (R96). -/
theorem disassemble_of_not_wellFormed (h : (decode w).wellFormed = false) : disassemble w = .word w.toNat := by
  unfold disassemble
  cases hdecode : decode w with
  | micSet | eqSet | colorSet =>
    rw [hdecode] at h
    exact if_neg (ne_of_beq_false h)
  | reserved0 | reserved4to7 | reserved8toF => rfl

end

/-- What `AssembleOfDisassemble` says of a word, from its own line. -/
theorem IsOwnLine.roundTrip {w : Word} {line : AsmLine} (h : IsOwnLine w line) :
    assemble (disassemble w) = some w ∧ disassemble w = line ∧
      ((decode w).wellFormed = false ↔ disassemble w = .word w.toNat) := by
  refine ⟨h.disassembles ▸ h.assembles, h.disassembles, ?_⟩
  simp [h.wellFormed, h.disassembles, h.not_word]

/-- Settles O6: a word has a line of its own by one of the three forms, or decodes to an ill-formed command. -/
theorem assembleOfDisassemble : Obligations.AssembleOfDisassemble := by
  intro w
  split_ifs with h1 h2 h3
  · exact (isOwnLine_micSet h1.1 h1.2).roundTrip
  · exact (isOwnLine_eqSet h2.1 h2.2).roundTrip
  · exact (isOwnLine_colorSet h3.1 h3.2).roundTrip
  · have hform := wellFormed_decode_eq_false h1 h2 h3
    have hline := disassemble_of_not_wellFormed hform
    exact ⟨hline ▸ assemble_word_toNat w, hline, iff_of_true hform hline⟩

/-- The word of a line is one that `.word` names, or that of a well-formed command (R94). -/
theorem assemble_eq_some {line : AsmLine} {w : Word} (h : assemble line = some w) :
    line = .word w.toNat ∨ ∃ i, i.wellFormed = true ∧ w = encode i := by
  cases line with
  | word n =>
    obtain ⟨hn, hw⟩ := Option.ite_none_right_eq_some.mp h
    cases hw
    exact .inl (by rw [BitVec.toNat_ofNat, Nat.mod_eq_of_lt hn])
  | micOn | micOff =>
    cases h
    exact .inr ⟨_, rfl, rfl⟩
  | micSet | eqSet | colorSet | eqFlat =>
    obtain ⟨-, hw⟩ := Option.ite_none_right_eq_some.mp h
    cases hw
    exact .inr ⟨_, rfl, rfl⟩

/-- Settles O7: each form's word is the assembler's own equation, and a line of another form than `.word` has the word of a
well-formed command, which the decoder gives back. -/
theorem assemblerTakesWhatFits : Obligations.AssemblerTakesWhatFits := by
  refine ⟨fun _ => rfl, fun _ _ => rfl, fun _ _ _ => rfl, fun _ => rfl, rfl, fun line w h hform => ?_⟩
  obtain hword | ⟨i, hi, rfl⟩ := assemble_eq_some h
  · exact hword
  · rw [decodeOfEncode i, hi] at hform
    cases hform

/-- Settles O5: twelve closed lines, each evaluated. -/
theorem encodingExamples : Obligations.EncodingExamples := by
  unfold Obligations.EncodingExamples
  decide

/-- `eq.flat` is `eq.set` at 0 dB (R95). -/
theorem assemble_eqFlat (band : Nat) : assemble (.eqFlat band) = assemble (.eqSet band 0x18) := by
  simp [assemble]

/-- Settles O8: the expansions, and for each of the eight bands that fit the word itself. -/
theorem pseudoInstructionsExpand : Obligations.PseudoInstructionsExpand := by
  refine ⟨rfl, rfl, rfl, rfl, fun band => ⟨assemble_eqFlat band, ?_⟩⟩
  revert band
  decide

end Sys2Proof.Machine
end

section
/-! Commands that a ready block rejects for their OP (30_encoding.md R81) or their reserved bits (R82). -/

namespace Sys2Proof.Machine

/-- A ready block answers a command that fails a check with the INVALID_ARGUMENT record of its OP (R146). -/
theorem exec_not_accepted {i : Instr} {s : State} (hready : Ready s) (hacc : ¬ Accepted i) :
    exec i s = .next (rejected .invalidArgument i.op s) := by
  have hvalid : validBits i = false := by simpa [← validBits_iff] using hacc
  rw [exec_eq_cmdWrite, hvalid, cmdWrite_invalid hready]

/-- An accepted command is well-formed (R81, R82). -/
theorem Accepted.wellFormed {i : Instr} (hacc : Accepted i) : i.wellFormed = true := by
  cases i with
  | micSet resv en => exact beq_iff_eq.mpr hacc
  | eqSet resv band value => exact beq_iff_eq.mpr hacc.1
  | colorSet resv red green blue => exact beq_iff_eq.mpr hacc.1
  | reserved0 | reserved4to7 | reserved8toF => exact hacc.elim

/-- A ready block rejects the word of an ill-formed command, with the word's OP in the record (R81, R82). -/
theorem exec_decode_of_not_wellFormed {w : Word} {s : State} (hready : Ready s) (hform : (decode w).wellFormed = false) :
    exec (decode w) s = .next (rejected .invalidArgument (opField w) s) := by
  rw [exec_not_accepted hready fun hacc => by simp [hacc.wellFormed] at hform, op_decode]

/-- Settles O19: no reserved command is accepted, and a word of a reserved OP decodes to one. -/
theorem reservedOpIsRecorded : Obligations.ReservedOpIsRecorded := by
  intro s hready
  refine ⟨fun rest => exec_not_accepted hready id, fun sub rest => exec_not_accepted hready id,
    fun sub rest => exec_not_accepted hready id, fun w hop => ?_⟩
  have hne : opField w ≠ 0x1 ∧ opField w ≠ 0x2 ∧ opField w ≠ 0x3 := by
    change opField w = 0x0 ∨ 0x4 ≤ (opField w).toNat at hop
    generalize opField w = op at hop
    revert op
    decide
  obtain ⟨h1, h2, h3⟩ := hne
  rw [← op_decode] at h1 h2 h3
  exact exec_decode_of_not_wellFormed hready (reserved_of_op h1 h2 h3).1

/-- Settles O20: a nonzero reserved field is ill-formed, in the command and in the word it is read from. -/
theorem reservedBitIsRejected : Obligations.ReservedBitIsRejected := by
  intro s hready
  have hmic : ∀ resv en, resv ≠ 0 → exec (.micSet resv en) s = .next (rejected .invalidArgument 0x1 s) :=
    fun _ _ hresv => exec_not_accepted hready hresv
  have heq : ∀ resv band value, resv ≠ 0 → exec (.eqSet resv band value) s = .next (rejected .invalidArgument 0x2 s) :=
    fun _ _ _ hresv => exec_not_accepted hready fun hacc => hresv hacc.1
  have hcolor : ∀ resv red green blue, resv ≠ 0 →
      exec (.colorSet resv red green blue) s = .next (rejected .invalidArgument 0x3 s) :=
    fun _ _ _ _ hresv => exec_not_accepted hready fun hacc => hresv hacc.1
  refine ⟨hmic, heq, hcolor, fun w => ⟨fun hop hresv => ?_, fun hop hresv => ?_, fun hop hresv => ?_⟩⟩
  · rw [decode_of_op_micSet hop]
    exact hmic _ _ hresv
  · rw [decode_of_op_eqSet hop]
    exact heq _ _ _ hresv
  · rw [decode_of_op_colorSet hop]
    exact hcolor _ _ _ _ hresv

end Sys2Proof.Machine
end

section
/-! FRAME against the device frame map (30_encoding.md R90), entry by entry. -/

namespace Sys2Proof.Machine

/-- Entry k of a sequence of the map, and a fault past its end (R149). -/
def mapFrame (frames : List (Frame × Param)) (k : Nat) : Except Fault (Frame × Param) :=
  match frames[k]? with
  | some fp => .ok fp
  | none => .error .frameOutOfRange

theorem mapFrame_of_le {frames : List (Frame × Param)} {k : Nat} (h : frames.length ≤ k) :
    mapFrame frames k = .error .frameOutOfRange := by
  simp [mapFrame, h]

theorem mapFrame_eq_ok {frames : List (Frame × Param)} {k : Nat} {fp : Frame × Param} :
    mapFrame frames k = .ok fp ↔ frames[k]? = some fp := by
  unfold mapFrame
  split <;> simp [*]

@[simp] theorem micSequence_length (en : BitVec 1) : (micSequence en).length = 1 := rfl

@[simp] theorem eqSequence_length (b : Fin 5) (value : BitVec 8) : (eqSequence b value).length = 19 := by
  simp [eqSequence]

@[simp] theorem colorSequence_length (red green blue : Byte) : (colorSequence red green blue).length = 13 := rfl

/-- The MIC_SET row of the map (R139). -/
theorem frame_micSet (s : State) (k : Nat) : frame s 0x1 k = mapFrame (micSequence s.en) k := by
  cases k with
  | zero => rfl
  | succ k => rw [mapFrame_of_le (by simp)]; rfl

/-- The row latched for a VALUE is the row of the map (R110). -/
theorem rowOf_toNat (value : BitVec 8) : (rowOf value).toNat = (rowIndex value.toNat).val := by
  have hzero : value = eqZero ↔ value.toNat = 0x18 := BitVec.toNat_inj.symm
  have hlt : eqZero.toNat = 0x18 := rfl
  unfold rowOf rowIndex
  rw [hlt]
  by_cases hbelow : value.toNat < 0x18
  · simp [hbelow]
  · by_cases hat : value.toNat = 0x18 <;> simp only [hbelow, hzero, hat, if_true, if_false] <;> rfl

/-- A byte of the calibration row in the latches is the map's (R50, R110). -/
theorem calByte_of_row {s : State} {i : Nat} (hb : s.band.toNat < 5) (hrow : s.row = rowOf s.value) (hi : i < 12) :
    calByte s.band s.row i = .ok (calAt ⟨s.band.toNat, hb⟩ (rowIndex s.value.toNat) ⟨i, hi⟩) := by
  have hindex : s.row.toNat = (rowIndex s.value.toNat).val := hrow ▸ rowOf_toNat s.value
  have hlt : s.row.toNat < 3 := hindex ▸ Fin.isLt _
  have hfin : (⟨s.row.toNat, hlt⟩ : Fin 3) = rowIndex s.value.toNat := Fin.ext hindex
  rw [calByte_of_lt hb hlt hi, hfin]

theorem eqSequence_calibration (b : Fin 5) (value : BitVec 8) {i : Nat} (hi : i < 12) :
    (eqSequence b value)[i + 3]? =
      some (cmdFrame Config.opCal (calAt b (rowIndex value.toNat) ⟨i, hi⟩), Config.pDefault) := by
  interval_cases i <;> rfl

theorem eqFrame_calibration (s : State) {i : Nat} (hi : i < 12) :
    eqFrame s (i + 3) = (calByte s.band s.row i).bind fun byte => enc Config.opCal [byte] := by
  have hle : i + 3 ≤ 14 := by omega
  simp [eqFrame, hle]

theorem eqFrame_of_le (s : State) {k : Nat} (hk : 19 ≤ k) : eqFrame s k = .error .frameOutOfRange := by
  unfold eqFrame
  simp (disch := omega) only [if_neg]

/-- The EQ_SET rows of the map: prologue, calibration and epilogue (R112, R119). -/
theorem frame_eqSet {s : State} (hb : s.band.toNat < 5) (hrow : s.row = rowOf s.value) (k : Nat) :
    frame s 0x2 k = mapFrame (eqSequence ⟨s.band.toNat, hb⟩ s.value) k := by
  change (eqFrame s k).map (fun f => (f, Config.pDefault)) = _
  have hop := opReg_of_lt hb
  obtain hpro | ⟨hge, hlt⟩ | ⟨hge, hle⟩ | hout : k ≤ 2 ∨ (3 ≤ k ∧ k < 15) ∨ (15 ≤ k ∧ k ≤ 18) ∨ 19 ≤ k := by omega
  · interval_cases k
    · change Except.map _ ((opReg s.band).bind fun op => enc op [eqZero]) = _
      rw [hop]
      rfl
    · rfl
    · rfl
  · obtain ⟨i, rfl⟩ := Nat.exists_eq_add_of_le' hge
    have hi : i < 12 := by omega
    rw [eqFrame_calibration s hi, calByte_of_row hb hrow hi, mapFrame_eq_ok.mpr (eqSequence_calibration _ _ hi)]
    simp [Except.bind, Except.map]
  · interval_cases k
    · rfl
    · rfl
    · change Except.map _ ((opReg s.band).bind fun op => enc op [s.value]) = _
      rw [hop]
      rfl
    · rfl
  · rw [eqFrame_of_le s hout, mapFrame_of_le (by simpa using hout)]
    rfl

/-- The substitution by position is the substitution by assignment (R127). -/
theorem ofFn_mux3 (s : State) : List.ofFn (mux3 s) = rawWithColor s.red s.green s.blue := by
  refine List.ext_getElem (by simp [rawWithColor]) fun i _ _ => ?_
  simp only [rawWithColor, rawAt, mux3, rawByte, List.getElem_ofFn, List.getElem_set]
  grind

theorem colorFrame_of_le (s : State) {k : Nat} (hk : 13 ≤ k) : colorFrame s k = .error .frameOutOfRange := by
  unfold colorFrame
  simp (disch := omega) only [rgbFrame, if_neg, dif_neg]

/-- The COLOR_SET rows of the map (R130, R131). -/
theorem frame_colorSet (s : State) (k : Nat) :
    frame s 0x3 k = mapFrame (colorSequence s.red s.green s.blue) k := by
  change colorFrame s k = _
  obtain rfl | hlt | ⟨hgt, hlt⟩ | hout : k = 3 ∨ k < 3 ∨ (3 < k ∧ k < 13) ∨ 13 ≤ k := by omega
  · exact congrArg (fun f => Except.ok (f, Config.pDefault)) (ofFn_mux3 s)
  · interval_cases k <;> rfl
  · interval_cases k <;> rfl
  · rw [colorFrame_of_le s hout, mapFrame_of_le hout]

/-- Settles O14: the three sequences, each compared with its row of the map entry by entry. -/
theorem frameFollowsTheMap : Obligations.FrameFollowsTheMap :=
  fun s k => ⟨frame_micSet s k, fun hb hrow => frame_eqSet hb hrow k, frame_colorSet s k⟩

end Sys2Proof.Machine
end

section
/-! The outstanding frame as the Transport takes it (30_encoding.md R90 to R92): an entry of the map, of a command whose
operands the latches hold. -/

namespace Sys2Proof.Machine

/-- While REQ = 1 the Transport takes FRAME(OPR, IDX), whose length FLEN is (R34, R150, R158). -/
theorem Invariant.outstanding_eq {s : State} (hinv : Invariant s) (hreq : s.req = true) :
    ∃ f p, frame s s.opr s.idx.toNat = .ok (f, p) ∧ outstanding s = some (f, p) ∧ s.fb = fitFrame f ∧
      s.flen.toNat = f.length ∧ s.fparam = p := by
  obtain ⟨f, p, hf, hfb, hflen, hparam⟩ := hinv.frameHeld hreq
  have hle : f.length ≤ 39 := by have := frame_length hf; omega
  have hlen : s.flen.toNat = f.length := by rw [hflen, BitVec.toNat_ofNat, Nat.mod_eq_of_lt (by omega)]
  refine ⟨f, p, hf, ?_, hfb, hlen, hparam⟩
  rw [outstanding, if_pos hreq, hlen, hfb, hparam, fitFrame_take hle]

/-- Settles O49: the control transfer is made of the outstanding frame, which is FRAME(OPR, IDX). -/
theorem controlTransferCarriesTheFrame : Obligations.ControlTransferCarriesTheFrame := by
  intro s hinv hreq
  obtain ⟨f, p, hf, hout, -, hlen, -⟩ := hinv.outstanding_eq hreq
  exact ⟨f, p, hf, by simp [controlTransfer, hout, hlen]⟩

theorem expectedFrames_eqSet {resv : BitVec 17} {band : BitVec 3} {value : BitVec 8} (h : band.toNat < 5) :
    expectedFrames (.eqSet resv band value) = eqSequence ⟨band.toNat, h⟩ value := dif_pos h

theorem Accepted.band_lt {resv : BitVec 17} {band : BitVec 3} {value : BitVec 8}
    (h : Accepted (.eqSet resv band value)) : band.toNat < 5 := by
  obtain ⟨-, hband, -⟩ := h
  omega

/-- With the operands of an accepted command in the latches, FRAME is that command's row of the map (R90, R149). -/
theorem frame_latchOf {i : Instr} (hacc : Accepted i) (s : State) (k : Nat) :
    frame (latchOf i s) i.op k = mapFrame (expectedFrames i) k := by
  cases i with
  | micSet resv en => exact frame_micSet _ k
  | eqSet resv band value =>
    rw [expectedFrames_eqSet hacc.band_lt]
    exact frame_eqSet (s := latchEq band value s) hacc.band_lt rfl k
  | colorSet resv red green blue => exact frame_colorSet _ k
  | reserved0 | reserved4to7 | reserved8toF => exact hacc.elim

/-- While REQ = 1 the latches hold the operands of an accepted command with OP = OPR (R25, R158). -/
theorem Invariant.exists_command {s : State} (hinv : Invariant s) (hreq : s.req = true) :
    ∃ i, Accepted i ∧ i.op = s.opr ∧ latchOf i s = s := by
  obtain ⟨n, hn, -, -⟩ := hinv.busy_frame (hinv.req_iff_busy.mp hreq)
  rcases seqLength_eq_some.mp hn with ⟨hop, -⟩ | ⟨hop, -⟩ | ⟨hop, -⟩
  · exact ⟨.micSet 0 s.en, rfl, hop.symm, rfl⟩
  · refine ⟨.eqSet 0 s.band s.value, ⟨rfl, hinv.band_le, hinv.value_le⟩, hop.symm, ?_⟩
    rw [latchOf, latchEq, ← hinv.row_eq]
  · have hle (c : BitVec 8) : (c.setWidth 9).toNat ≤ 255 := by
      rw [BitVec.toNat_setWidth_of_le (by decide)]
      exact Nat.le_of_lt_succ c.isLt
    refine ⟨.colorSet 0 (s.red.setWidth 9) (s.green.setWidth 9) (s.blue.setWidth 9),
      ⟨rfl, hle _, hle _, hle _⟩, hop.symm, ?_⟩
    simp [latchOf, latchColor]

/-- The outstanding frame is entry IDX of the row of an accepted command (R90). -/
theorem Invariant.outstanding_mem_map {s : State} (hinv : Invariant s) (hreq : s.req = true) :
    ∃ i f p, Accepted i ∧ i.op = s.opr ∧ (expectedFrames i)[s.idx.toNat]? = some (f, p) ∧
      outstanding s = some (f, p) ∧ s.fb = fitFrame f ∧ s.flen.toNat = f.length ∧ s.fparam = p := by
  obtain ⟨i, hacc, hop, hlatch⟩ := hinv.exists_command hreq
  obtain ⟨f, p, hf, hout, hheld⟩ := hinv.outstanding_eq hreq
  have hmap := frame_latchOf hacc s s.idx.toNat
  rw [hlatch, hop, hf] at hmap
  exact ⟨i, f, p, hacc, hop, mapFrame_eq_ok.mp hmap.symm, hout, hheld⟩

/-- Settles O47: the entry that `outstanding_mem_map` finds stands inside its sequence. -/
theorem everyPresentedFrameIsInTheMap : Obligations.EveryPresentedFrameIsInTheMap := by
  intro s hinv hreq
  obtain ⟨i, f, p, hacc, hop, hentry, hout, -⟩ := hinv.outstanding_mem_map hreq
  exact ⟨i, hacc, hop, (List.getElem?_eq_some_iff.mp hentry).1, hout.trans hentry.symm⟩

/-- A Command Frame of one payload byte on P_DEFAULT (R91). -/
def IsCommandFrame (fp : Frame × Param) : Prop := ∃ op p, fp = (cmdFrame op p, Config.pDefault)

@[simp] theorem isCommandFrame_cmdFrame (op p : Byte) : IsCommandFrame (cmdFrame op p, Config.pDefault) := ⟨op, p, rfl⟩

theorem isCommandFrame_of_mem_micSequence {en : BitVec 1} {fp : Frame × Param} (h : fp ∈ micSequence en) :
    IsCommandFrame fp := by
  rw [List.mem_singleton.mp h]
  exact isCommandFrame_cmdFrame _ _

theorem isCommandFrame_of_mem_eqSequence {b : Fin 5} {value : BitVec 8} {fp : Frame × Param}
    (h : fp ∈ eqSequence b value) : IsCommandFrame fp := by
  revert fp
  simp only [eqSequence, List.map_append, List.forall_mem_append]
  simp

/-- Of MIC_SET and EQ_SET every frame is a Command Frame (R90, R91). -/
theorem isCommandFrame_of_mem {i : Instr} (hacc : Accepted i) (hop : i.op ≠ 0x3) {fp : Frame × Param}
    (h : fp ∈ expectedFrames i) : IsCommandFrame fp := by
  cases i with
  | micSet resv en => exact isCommandFrame_of_mem_micSequence h
  | eqSet resv band value =>
    rw [expectedFrames_eqSet hacc.band_lt] at h
    exact isCommandFrame_of_mem_eqSequence h
  | colorSet resv red green blue => exact absurd rfl hop
  | reserved0 | reserved4to7 | reserved8toF => exact hacc.elim

/-- Past its payload byte a Command Frame is 0x00 (R91). -/
theorem cmdFrame_getD_of_le (op p : Byte) {k : Nat} (hk : 5 ≤ k) : (cmdFrame op p).getD k 0x00 = 0x00 := by
  by_cases hlt : k < 16
  · interval_cases k <;> rfl
  · exact List.getD_eq_default _ _ (by simpa using hlt)

/-- Of COLOR_SET frames 11 and 12 alone are on another parameter than P_DEFAULT (R90). -/
theorem colorSequence_param_ne {red green blue : Byte} {k : Nat} {f : Frame} {p : Param}
    (h : (colorSequence red green blue)[k]? = some (f, p)) : p ≠ Config.pDefault ↔ k = 11 ∨ k = 12 := by
  have hlt : k < 13 := (List.getElem?_eq_some_iff.mp h).1
  obtain hk | rfl | rfl : k < 11 ∨ k = 11 ∨ k = 12 := by omega
  · have hp : p = Config.pDefault := by interval_cases k <;> cases h <;> rfl
    exact iff_of_false (fun hne => hne hp) (by omega)
  · cases h
    simp [Config.pDefault_ne_pPresave.symm]
  · cases h
    simp [Config.pDefault_ne_pSave.symm]

/-- Of all frames, COLOR frames 11 and 12 alone are on another parameter than P_DEFAULT (R90, R91). -/
theorem expectedFrames_param_ne {i : Instr} (hacc : Accepted i) {k : Nat} {f : Frame} {p : Param}
    (h : (expectedFrames i)[k]? = some (f, p)) : p ≠ Config.pDefault ↔ i.op = 0x3 ∧ (k = 11 ∨ k = 12) := by
  by_cases hop : i.op = 0x3
  · rw [and_iff_right hop]
    cases i with
    | colorSet resv red green blue => exact colorSequence_param_ne h
    | micSet | eqSet => exact absurd hop (by simp [Instr.op])
    | reserved0 | reserved4to7 | reserved8toF => exact hacc.elim
  · obtain ⟨op, byte, hframe⟩ := isCommandFrame_of_mem hacc hop (List.mem_of_getElem? h)
    cases hframe
    exact iff_of_false (fun hne => hne rfl) fun hcolor => hop hcolor.1

/-- Settles O48: by the map, whose MIC_SET and EQ_SET rows are Command Frames, and whose COLOR_SET row leaves P_DEFAULT at
11 and 12. -/
theorem commandFramesHaveOneByte : Obligations.CommandFramesHaveOneByte := by
  intro s hinv hreq
  obtain ⟨i, f, p, hacc, hop, hentry, -, hfb, hlen, hparam⟩ := hinv.outstanding_mem_map hreq
  constructor
  · intro hcommand
    have hne : i.op ≠ 0x3 := by rcases hcommand with h | h <;> simp [hop, h]
    obtain ⟨op, byte, hframe⟩ := isCommandFrame_of_mem hacc hne (List.mem_of_getElem? hentry)
    cases hframe
    rw [hfb]
    refine ⟨rfl, rfl, rfl, BitVec.eq_of_toNat_eq hlen, fun k hk h5 => ?_⟩
    rw [fitFrame_getElem, cmdFrame_getD_of_le _ _ h5]
  · rw [hparam, expectedFrames_param_ne hacc hentry, hop, ← BitVec.toNat_inj (x := s.idx),
      ← BitVec.toNat_inj (x := s.idx)]
    rfl

end Sys2Proof.Machine
end

section
/-! A whole sequence (44_sequencer.md R152 to R154, R159): what holds while frame k of a command is outstanding, that a command
starts with frame 0, that each OK before the last frame goes on to the next, and how the sequence ends. -/

namespace Sys2Proof.Machine

theorem expectedFrames_length_eqSet {resv : BitVec 17} {band : BitVec 3} {value : BitVec 8}
    (h : Accepted (.eqSet resv band value)) : (expectedFrames (.eqSet resv band value)).length = 19 := by
  rw [expectedFrames_eqSet h.band_lt, eqSequence_length]

/-- N is the length of the command's row of the map (R148). -/
theorem seqLength_op {i : Instr} (hacc : Accepted i) : seqLength i.op = some (expectedFrames i).length := by
  cases i with
  | micSet resv en => rfl
  | eqSet resv band value => rw [expectedFrames_length_eqSet hacc]; rfl
  | colorSet resv red green blue => rfl
  | reserved0 | reserved4to7 | reserved8toF => exact hacc.elim

/-- A sequence has a frame, and every index of it fits IDX (R24, R148). -/
theorem expectedFrames_length_bounds {i : Instr} (hacc : Accepted i) :
    0 < (expectedFrames i).length ∧ (expectedFrames i).length < 32 := by
  rcases seqLength_eq_some.mp (seqLength_op hacc) with ⟨-, h⟩ | ⟨-, h⟩ | ⟨-, h⟩ <;> omega

/-- An accepted command on a ready block presents entry 0 of its row (R147). -/
theorem exec_accepted {i : Instr} {s : State} {f : Frame} {p : Param} (hready : Ready s) (hacc : Accepted i)
    (hentry : (expectedFrames i)[0]? = some (f, p)) :
    exec i s = .next (present f p { latchOf i (clearRecord s) with opr := i.op, idx := 0, seq := .busy }) := by
  rw [exec_eq_cmdWrite, (validBits_iff i).mpr hacc, cmdWrite_valid hready, startSequence]
  apply presentAt_of_ok
  rw [← mapFrame_eq_ok.mpr hentry, ← frame_latchOf hacc (clearRecord s)]
  exact frame_congr rfl rfl rfl rfl rfl rfl rfl _ _

/-- A command written to CMD is run (R37, R98). -/
theorem step_commandEvent {i : Instr} {s : State} {rest : List Event} (h : s.inputs = commandEvent i :: rest) :
    step s = exec i { s with inputs := rest } := by
  rw [stepRunsTheDecodedCommand s (encode i) rest h, decodeOfEncode i]

theorem step_respond {s : State} {r : Response} {rest : List Event} (h : s.inputs = .respond r :: rest) :
    step s = transportRespond r { s with inputs := rest } := step_cons h

section
variable {s : State} {n : Nat}

/-- An OK to a frame that is not the last (R152). -/
theorem transportRespond_ok_next {f : Frame} {p : Param} (hreq : s.req = true) (hn : seqLength s.opr = some n)
    (hidx : s.idx.toNat ≠ n - 1) (hf : frame s s.opr (s.idx.toNat + 1) = .ok (f, p)) :
    transportRespond .ok s = .next (present f p { s with log := s.log ++ [.answered .ok], idx := s.idx + 1 }) := by
  simp only [transportRespond, answerOk, hreq, hn, hidx, if_false, Bool.true_eq_false]
  apply presentAt_of_ok
  rw [← hf]
  exact frame_congr rfl rfl rfl rfl rfl rfl rfl _ _

/-- An OK to the last frame (R153). -/
theorem transportRespond_ok_last (hreq : s.req = true) (hn : seqLength s.opr = some n) (hidx : s.idx.toNat = n - 1) :
    transportRespond .ok s = .next (goIdle { s with log := s.log ++ [.answered .ok], done := true }) := by
  simp only [transportRespond, answerOk, hreq, hn, hidx, if_true, if_false, Bool.true_eq_false]

/-- A FAIL (R154). -/
theorem transportRespond_fail (hreq : s.req = true) :
    transportRespond .fail s = .next (answerFail { s with log := s.log ++ [.answered .fail] }) := by
  simp only [transportRespond, hreq, if_false, Bool.true_eq_false]

end

/-- Frame k of command i is outstanding, after frames 0 to k - 1 answered OK, with the frames `before` from earlier
commands. -/
structure Presenting (i : Instr) (k : Nat) (before : List (Frame × Param)) (s : State) : Prop where
  req : s.req = true
  opr : s.opr = i.op
  idx : s.idx.toNat = k
  done : s.done = false
  ovr : s.ovr = false
  err : s.err = .none
  frame_eq : ∀ j, frame s i.op j = mapFrame (expectedFrames i) j
  presented : framesOf s.log = before ++ (expectedFrames i).take (k + 1)

/-- A command written to a ready block has its frame 0 outstanding (R147). -/
theorem step_command {i : Instr} {s : State} {rest : List Event} (hready : Ready s) (hacc : Accepted i)
    (hin : s.inputs = commandEvent i :: rest) :
    ∃ t, step s = .next t ∧ Presenting i 0 (framesOf s.log) t ∧ t.inputs = rest := by
  obtain ⟨hpos, -⟩ := expectedFrames_length_bounds hacc
  have hentry := List.getElem?_eq_getElem hpos
  have hstep := (step_commandEvent hin).trans (exec_accepted hready hacc hentry)
  refine ⟨_, hstep, ⟨rfl, rfl, rfl, by simp, by simp, by simp, fun j => ?_, ?_⟩, by simp⟩
  · rw [← frame_latchOf hacc (clearRecord s)]
    cases i <;> exact frame_congr rfl rfl rfl rfl rfl rfl rfl _ _
  · simp [framesOf, List.take_add_one, hentry]

/-- An OK before the last frame goes on to the next one (R152). -/
theorem Presenting.step_ok {i : Instr} {k : Nat} {before : List (Frame × Param)} {s : State} {rest : List Event}
    (hacc : Accepted i) (h : Presenting i k before s) (hk : k + 1 < (expectedFrames i).length)
    (hin : s.inputs = .respond .ok :: rest) :
    ∃ t, step s = .next t ∧ Presenting i (k + 1) before t ∧ t.inputs = rest := by
  obtain ⟨-, hbound⟩ := expectedFrames_length_bounds hacc
  have hentry := List.getElem?_eq_getElem hk
  have hlast : s.idx.toNat ≠ (expectedFrames i).length - 1 := by rw [h.idx]; omega
  have hframe : frame s s.opr (s.idx.toNat + 1) = .ok (expectedFrames i)[k + 1] := by
    rw [h.opr, h.idx, h.frame_eq, mapFrame_eq_ok.mpr hentry]
  have hidx : (s.idx + 1).toNat = k + 1 := by
    rw [BitVec.toNat_add, h.idx]
    change (k + 1) % 32 = k + 1
    omega
  have hstep := (step_respond hin).trans (transportRespond_ok_next h.req (h.opr ▸ seqLength_op hacc) hlast hframe)
  refine ⟨_, hstep, ⟨rfl, h.opr, hidx, h.done, h.ovr, h.err, fun j => ?_, ?_⟩, rfl⟩
  · rw [← h.frame_eq j]
    exact frame_congr rfl rfl rfl rfl rfl rfl rfl _ _
  · simp [framesOf, h.presented, List.take_add_one, hentry]

/-- An OK to the last frame completes the sequence (R153). -/
theorem Presenting.step_ok_last {i : Instr} {k : Nat} {before : List (Frame × Param)} {s : State} {rest : List Event}
    (hacc : Accepted i) (h : Presenting i k before s) (hk : k + 1 = (expectedFrames i).length)
    (hin : s.inputs = .respond .ok :: rest) :
    step s = .next (goIdle { s with inputs := rest, log := s.log ++ [.answered .ok], done := true }) := by
  have hlast : s.idx.toNat = (expectedFrames i).length - 1 := by rw [h.idx]; omega
  exact (step_respond hin).trans (transportRespond_ok_last h.req (h.opr ▸ seqLength_op hacc) hlast)

/-- A FAIL abandons the sequence (R154). -/
theorem Presenting.step_fail {i : Instr} {k : Nat} {before : List (Frame × Param)} {s : State} {rest : List Event}
    (h : Presenting i k before s) (hin : s.inputs = .respond .fail :: rest) :
    step s = .next (answerFail { s with inputs := rest, log := s.log ++ [.answered .fail] }) :=
  (step_respond hin).trans (transportRespond_fail h.req)

/-- m OKs inside the sequence go on by m frames; the run goes on from there. -/
theorem Presenting.run_ok {i : Instr} {before : List (Frame × Param)} {rest : List Event} (hacc : Accepted i) (m : Nat)
    {k : Nat} {s : State} (h : Presenting i k before s) (hk : k + m < (expectedFrames i).length)
    (hin : s.inputs = List.replicate m (.respond .ok) ++ rest) :
    ∃ t, (∀ j, runSteps (m + j) s = runSteps j t) ∧ Presenting i (k + m) before t ∧ t.inputs = rest := by
  induction m generalizing k s with
  | zero => exact ⟨s, fun j => by rw [Nat.zero_add], h, hin⟩
  | succ m ih =>
    obtain ⟨u, hstep, hu, huin⟩ := h.step_ok hacc (by omega) hin
    obtain ⟨t, hrun, ht, htin⟩ := ih hu (by omega) huin
    refine ⟨t, fun j => ?_, ?_, htin⟩
    · rw [Nat.add_right_comm, runSteps_succ hstep, hrun]
    · rwa [Nat.add_assoc, Nat.add_comm 1] at ht

/-- A command and m OKs inside its sequence leave frame m outstanding; the run goes on from there. -/
theorem run_command {i : Instr} {s : State} {m : Nat} {rest : List Event} (hready : Ready s) (hacc : Accepted i)
    (hm : m < (expectedFrames i).length) (hin : s.inputs = commandEvent i :: (List.replicate m (.respond .ok) ++ rest)) :
    ∃ t, (∀ j, runSteps (m + j + 1) s = runSteps j t) ∧ Presenting i m (framesOf s.log) t ∧ t.inputs = rest := by
  obtain ⟨u, hstep, hu, huin⟩ := step_command hready hacc hin
  obtain ⟨t, hrun, ht, htin⟩ := hu.run_ok hacc m (by omega) huin
  exact ⟨t, fun j => by rw [runSteps_succ hstep, hrun], by rwa [Nat.zero_add] at ht, htin⟩

/-- Settles O50: all but the last OK lead to the last frame, and the last OK completes. -/
theorem answeredCommandPresentsItsSequence : Obligations.AnsweredCommandPresentsItsSequence := by
  intro i s rest hready hacc hin
  obtain ⟨hpos, -⟩ := expectedFrames_length_bounds hacc
  obtain ⟨m, hm⟩ := Nat.exists_eq_add_one.mpr hpos
  rw [hm, List.replicate_succ', List.append_assoc] at hin
  obtain ⟨u, hrun, hu, huin⟩ := run_command hready hacc (by omega) hin
  have hstep := hu.step_ok_last (rest := rest) hacc hm.symm huin
  have hend := (hrun 1).trans ((runSteps_succ hstep).trans (runSteps_zero _))
  rw [← hm] at hend
  refine ⟨_, hend, ?_, rfl, rfl, rfl, hu.ovr, hu.err, hu.opr, rfl⟩
  simp [framesOf, hu.presented, ← hm]

/-- Settles O51: m OKs lead to frame m, and the FAIL abandons the sequence there. -/
theorem failedCommandPresentsAPrefix : Obligations.FailedCommandPresentsAPrefix := by
  intro i s m rest hready hacc hm hin
  obtain ⟨u, hrun, hu, huin⟩ := run_command hready hacc hm hin
  have hstep := hu.step_fail huin
  have hend := (hrun 1).trans ((runSteps_succ hstep).trans (runSteps_zero _))
  refine ⟨_, hend, ?_, rfl, rfl, hu.done, rfl, hu.opr, ?_, rfl⟩
  · simp [answerFail, framesOf, hu.presented]
  · simp [answerFail, ← hu.idx]

end Sys2Proof.Machine
end

section
/-! The Frame Encoder's layout (40_frame_encoder.md R101, R102), and that neither ENC_FAULT nor another fault is reached
from a state with the invariant (R105, 44_sequencer.md R149, 60_exceptions.md R168). -/

namespace Sys2Proof.Machine

/-- Settles O9: the frame is four header bytes, the payload and the padding, and an index lies in one of the three. -/
theorem encoderFrameLayout : Obligations.EncoderFrameLayout := by
  intro op payload
  refine ⟨fun hle => ⟨_, enc_of_le hle, ?_, rfl, rfl, rfl, rfl, fun i hi => ?_, fun i hge hlt => ?_⟩, enc_of_gt⟩
  · simp
    omega
  · rw [List.getElem?_append_left (by simp; omega), List.getElem?_append_right (by simp)]
    simp
  · rw [List.getElem?_append_right (by simp; omega), List.getElem?_replicate_of_lt (by simp; omega)]

/-- A command answers a next state in every state: it presents the frame of the operands it latches (R144, R147). -/
theorem exec_answers (i : Instr) (s : State) : ∃ t, exec i s = .next t := by
  obtain hbusy | hidle : s.seq = .busy ∨ s.seq = .idle := by cases s.seq <;> simp
  · exact ⟨_, (exec_eq_cmdWrite i s).trans (cmdWrite_busy hbusy)⟩
  obtain hdown | hup : s.link = false ∨ s.link = true := by cases s.link <;> simp
  · exact ⟨_, (exec_eq_cmdWrite i s).trans (cmdWrite_linkDown hidle hdown)⟩
  have hready : Ready s := ⟨hidle, hup⟩
  by_cases hacc : Accepted i
  · obtain ⟨hpos, -⟩ := expectedFrames_length_bounds hacc
    exact ⟨_, exec_accepted hready hacc (List.getElem?_eq_getElem hpos)⟩
  · exact ⟨_, exec_not_accepted hready hacc⟩

/-- An answer has a next state where BAND and ROW are in range and, with a frame outstanding, IDX is inside the sequence
of OPR: an OK then ends the sequence or finds its next frame defined (R149, R151 to R154). -/
theorem transportRespond_answers {s : State} (hband : s.band.toNat ≤ 4) (hrow : s.row.toNat ≤ 2)
    (hinside : s.req = true → ∃ n, seqLength s.opr = some n ∧ s.idx.toNat < n) (r : Response) :
    ∃ t, transportRespond r s = .next t := by
  obtain hnone | hreq : s.req = false ∨ s.req = true := by cases s.req <;> simp
  · exact ⟨s, if_pos hnone⟩
  cases r with
  | fail => exact ⟨_, transportRespond_fail hreq⟩
  | ok =>
    obtain ⟨n, hn, hlt⟩ := hinside hreq
    by_cases hlast : s.idx.toNat = n - 1
    · exact ⟨_, transportRespond_ok_last hreq hn hlast⟩
    · obtain ⟨f, p, hf⟩ := frame_defined hband hrow hn (k := s.idx.toNat + 1) (by omega)
      exact ⟨_, transportRespond_ok_next hreq hn hlast hf⟩

/-- ROW is at most 2 (R158). -/
theorem Invariant.row_le {s : State} (hinv : Invariant s) : s.row.toNat ≤ 2 := by
  rw [hinv.row_eq, rowOf_toNat]
  exact Nat.le_of_lt_succ (Fin.isLt _)

/-- While REQ = 1 OPR names a sequence that IDX is inside (R158). -/
theorem Invariant.idx_inside {s : State} (hinv : Invariant s) (hreq : s.req = true) :
    ∃ n, seqLength s.opr = some n ∧ s.idx.toNat < n := by
  obtain ⟨n, hn, hlt, -⟩ := hinv.busy_frame (hinv.req_iff_busy.mp hreq)
  exact ⟨n, hn, hlt⟩

/-- Settles O45: by the environment's next step. A command answers in every state, an answer of the Transport in the
ranges the invariant gives, and no other step can present a frame. -/
theorem noStepFaults : Obligations.NoStepFaults := by
  intro s hinv
  cases hin : s.inputs with
  | nil => exact ⟨s, by simp [step, hin]⟩
  | cons e rest =>
    cases e with
    | hostWrite o n w =>
      by_cases hcmd : o = 0x0 ∧ n = 32
      · obtain ⟨rfl, rfl⟩ := hcmd
        rw [stepRunsTheDecodedCommand s w rest hin]
        exact exec_answers _ _
      · exact ⟨_, step_hostWrite_other hin hcmd⟩
    | hostRead o n => exact ⟨_, step_hostRead hin⟩
    | respond r =>
      rw [step_respond hin]
      exact transportRespond_answers (s := { s with inputs := rest }) hinv.band_le hinv.row_le hinv.idx_inside r
    | link up => exact ⟨_, linkChangesAlone s up rest hin⟩
    | reset => exact ⟨_, step_cons hin⟩

end Sys2Proof.Machine
end

section
/-! EQ_SET on a ready block (41_equalizer.md R107 to R113), and the operands that a ready block rejects in EQ_SET (R109) and
COLOR_SET (42_color.md R125). -/

namespace Sys2Proof.Machine

/-- The row selection on the unsigned VALUE, as R110 writes it. -/
theorem rowOf_eq (value : BitVec 8) :
    rowOf value = if value.toNat < 0x18 then 0 else if value.toNat = 0x18 then 1 else 2 := by
  have hzero : value = eqZero ↔ value.toNat = 0x18 := BitVec.toNat_inj.symm
  simp only [rowOf, hzero]
  rfl

/-- Settles O11: each clause excludes the tests of `rowOf_eq` before its own. -/
theorem rowIsStepFunctionOfValue : Obligations.RowIsStepFunctionOfValue := by
  intro value
  rw [rowOf_eq]
  refine ⟨fun hbelow => if_pos hbelow, fun hat => ?_, fun habove => ?_⟩
  · rw [if_neg (by omega), if_pos hat]
  · rw [if_neg (by omega), if_neg (by omega)]

/-- EQ frame 0 sets the band to 0 dB (R113). -/
theorem expectedFrames_eqSet_zero {resv : BitVec 17} {band : BitVec 3} {value : BitVec 8} (h : band.toNat < 5) :
    (expectedFrames (.eqSet resv band value))[0]? =
      some (cmdFrame (Config.opReg ⟨band.toNat, h⟩) 0x18, Config.pDefault) := by
  rw [expectedFrames_eqSet h]
  rfl

/-- Settles O17: the command is accepted, so it latches its operands and presents entry 0 of its row of the map. -/
theorem eqSetStartsItsSequence : Obligations.EqSetStartsItsSequence := by
  intro s band value hband hvalue hready
  have hacc : Accepted (.eqSet 0 band value) := ⟨rfl, hband, hvalue⟩
  rw [exec_accepted hready hacc (expectedFrames_eqSet_zero hacc.band_lt), ← rowOf_eq]
  rfl

/-- Settles O21: a command with an operand out of range is not accepted. -/
theorem operandOutOfRangeIsRejected : Obligations.OperandOutOfRangeIsRejected := by
  intro s hready
  refine ⟨fun band value hout => ?_, fun red green blue hout => ?_⟩
  · have hnot : ¬ Accepted (.eqSet 0 band value) := fun ⟨_, hband, hvalue⟩ => by omega
    exact exec_not_accepted hready hnot
  · have hnot : ¬ Accepted (.colorSet 0 red green blue) := fun ⟨_, hred, hgreen, hblue⟩ => by omega
    exact exec_not_accepted hready hnot

end Sys2Proof.Machine
end

section
/-! COLOR_SET on a ready block (42_color.md R123), the bytes of COLOR frame 3 (R127), and what of a colour sequence depends on
the operands (R132). -/

namespace Sys2Proof.Machine

theorem colorFrame_three (s : State) : colorFrame s 3 = .ok (List.ofFn (mux3 s), Config.pDefault) := rfl

/-- Settles O12: frame 3 is listed from `mux3`, whose cases are those of R127. -/
theorem colorFrameThreeSubstitutesColor : Obligations.ColorFrameThreeSubstitutesColor := by
  intro s
  refine ⟨_, colorFrame_three s, List.length_ofFn, fun i => ?_⟩
  rw [List.getElem?_ofFn, dif_pos i.isLt]
  rfl

/-- Every COLOR frame but frame 3 is a constant of the tables (R126, R128, R129). -/
theorem colorFrame_eq_of_ne_three (s s' : State) {k : Nat} (hk : k ≠ 3) : colorFrame s k = colorFrame s' k := by
  simp only [colorFrame, rgbFrame, hk, if_false]

/-- Outside the three colour bytes `mux3` gives the table's byte (R127, R132). -/
theorem mux3_outside (s : State) {i : Fin 37} (hout : ¬ (Config.rgbOff.val ≤ i.val ∧ i.val ≤ Config.rgbOff.val + 2)) :
    mux3 s i = rawByte 3 i := by
  rw [mux3, if_neg (by omega), if_neg (by omega), if_neg (by omega)]

/-- Settles O13: the frames other than frame 3 are the same in both states, and so is `mux3` outside the colour bytes. -/
theorem onlyColorBytesDependOnOperands : Obligations.OnlyColorBytesDependOnOperands := by
  intro s s' k f f' p p' h h'
  by_cases hk : k = 3
  · subst hk
    cases h
    cases h'
    refine ⟨rfl, by simp, fun i hne => ⟨rfl, ?_⟩⟩
    by_contra hout
    refine hne ?_
    rw [List.getElem?_ofFn, List.getElem?_ofFn]
    split
    · rw [mux3_outside s hout, mux3_outside s' hout]
    · rfl
  · rw [colorFrame_eq_of_ne_three s s' hk, h'] at h
    cases h
    exact ⟨rfl, rfl, fun i hne => absurd rfl hne⟩

/-- Settles O18: the command is accepted, so it latches its components and presents entry 0 of its row of the map. -/
theorem colorSetStartsItsSequence : Obligations.ColorSetStartsItsSequence := by
  intro s red green blue hred hgreen hblue hready
  have hacc : Accepted (.colorSet 0 red green blue) := ⟨rfl, hred, hgreen, hblue⟩
  simp only [BitVec.ofNat_toNat]
  exact exec_accepted hready hacc rfl

end Sys2Proof.Machine
end

section
/-! MIC_SET on a ready block (43_microphone.md R138, R139). -/

namespace Sys2Proof.Machine

/-- Settles O16: zero reserved bits are all that acceptance asks, so the command latches EN and presents the one entry of its
row of the map. -/
theorem micSetStartsItsFrame : Obligations.MicSetStartsItsFrame := by
  intro s en hready
  have hacc : Accepted (.micSet 0 en) := rfl
  exact exec_accepted hready hacc rfl

end Sys2Proof.Machine
end

section
/-! Every step keeps the invariant (44_sequencer.md R158). Its fields fall into the latches' ranges, the error record, and
what SEQ decides, so a state has it by one of two rules, for an idle and for a busy block; each outcome of a step is an
application of one of them. -/

namespace Sys2Proof.Machine

/-- BAND and VALUE are in range, and ROW is the row of VALUE (R26 to R28). -/
structure LatchesInRange (s : State) : Prop where
  band_le : s.band.toNat ≤ 4
  value_le : s.value.toNat ≤ 0x30
  row_eq : s.row = rowOf s.value

/-- The error record is consistent with itself and with DONE (R40, R44, R158). -/
structure RecordConsistent (s : State) : Prop where
  done_no_error : s.done = true → s.err = .none
  failed_idx : s.err = .transferFailed → ∃ n, seqLength s.errOp = some n ∧ s.errIdx.toNat < n
  other_idx : s.err ≠ .transferFailed → s.errIdx = 0
  none_op : s.err = .none → s.errOp = 0

theorem Invariant.latchesInRange {s : State} (h : Invariant s) : LatchesInRange s := { h with }

theorem Invariant.recordConsistent {s : State} (h : Invariant s) : RecordConsistent s := { h with }

/-- The invariant of an idle block. -/
theorem Invariant.of_idle {s : State} (hseq : s.seq = .idle) (hreq : s.req = false) (hidx : s.idx = 0)
    (hopr : s.opr.toNat ≤ 3) (hlatches : LatchesInRange s) (hrecord : RecordConsistent s) : Invariant s :=
  { hlatches, hrecord with
    req_iff_busy := by simp [hseq, hreq]
    busy_frame := by simp [hseq]
    idle_idx := fun _ => hidx
    opr_known := hopr
    busy_no_record := by simp [hseq] }

/-- The OP of a sequence is at most 3 (R75, R148). -/
theorem toNat_le_of_seqLength {op : BitVec 4} {n : Nat} (h : seqLength op = some n) : op.toNat ≤ 3 := by
  rcases seqLength_eq_some.mp h with ⟨rfl, -⟩ | ⟨rfl, -⟩ | ⟨rfl, -⟩ <;> decide

/-- The invariant of a busy block. -/
theorem Invariant.of_busy {s : State} {n : Nat} (hseq : s.seq = .busy) (hreq : s.req = true)
    (hn : seqLength s.opr = some n) (hidx : s.idx.toNat < n) (hheld : FrameHeld s) (hdone : s.done = false)
    (herr : s.err = .none) (hlatches : LatchesInRange s) (hrecord : RecordConsistent s) : Invariant s :=
  { hlatches, hrecord with
    req_iff_busy := by simp [hseq, hreq]
    busy_frame := fun _ => ⟨n, hn, hidx, hheld⟩
    idle_idx := by simp [hseq]
    opr_known := toNat_le_of_seqLength hn
    busy_no_record := fun _ => ⟨hdone, herr⟩ }

/-- A frame presented is held, where it is the frame of OPR and IDX (R150). -/
theorem frameHeld_present {s : State} {f : Frame} {p : Param} (hf : frame s s.opr s.idx.toNat = .ok (f, p)) :
    FrameHeld (present f p s) :=
  ⟨f, p, (frame_congr rfl rfl rfl rfl rfl rfl rfl _ _).trans hf, rfl, rfl, rfl⟩

/-- The invariant speaks neither of OVR nor of what stands outside the block. -/
theorem Invariant.of_ovr_environment {s : State} (h : Invariant s) (ovr link : Bool) (inputs : List Event)
    (log : List Obs) : Invariant { s with ovr := ovr, link := link, inputs := inputs, log := log } :=
  { h with }

/-- A record without an error is consistent, whatever DONE is (R40, R44). -/
theorem RecordConsistent.of_none {s : State} (herr : s.err = .none) (hop : s.errOp = 0) (hidx : s.errIdx = 0) :
    RecordConsistent s :=
  ⟨fun _ => herr, by simp [herr], fun _ => hidx, fun _ => hop⟩

/-- Settles O43: the reset state is an idle block. -/
theorem invariantAtReset : Obligations.InvariantAtReset :=
  .of_idle rfl rfl rfl (by decide) ⟨by decide, by decide, by decide⟩ (.of_none rfl rfl rfl)

/-- Acceptance latches operands in range (R108, R110, R147). -/
theorem latchOf_latchesInRange {s : State} {i : Instr} (h : LatchesInRange s) (hacc : Accepted i) :
    LatchesInRange (latchOf i s) := by
  cases i with
  | eqSet resv band value =>
    obtain ⟨-, hband, hvalue⟩ := hacc
    exact ⟨hband, hvalue, rfl⟩
  | micSet | colorSet | reserved0 | reserved4to7 | reserved8toF => exact { h with }

/-- A rejection leaves the invariant of an idle block: its record is of no transfer, and has index 0 (R146, R170). -/
theorem rejected_keeps_invariant {s : State} (h : Invariant s) (hidle : s.seq = .idle) {e : ErrorCode} (op : BitVec 4)
    (hfailed : e ≠ .transferFailed) (hnone : e ≠ .none) : Invariant (rejected e op s) := by
  have hreq : s.req = false := by simpa [hidle] using h.req_iff_busy
  refine .of_idle hidle hreq (h.idle_idx hidle) h.opr_known { h.latchesInRange with } ?_
  exact ⟨nofun, fun he => absurd he hfailed, fun _ => rfl, fun he => absurd he hnone⟩

/-- A command keeps the invariant (R144 to R147). -/
theorem exec_keeps_invariant {i : Instr} {s t : State} (h : Invariant s) (hexec : exec i s = .next t) :
    Invariant t := by
  rcases exec_next hexec with ⟨-, rfl⟩ | ⟨hidle, -, rfl⟩ | ⟨⟨hidle, -⟩, -, rfl⟩ | ⟨-, hacc, f, p, hf, rfl⟩
  · exact h.of_ovr_environment true _ _ _
  · exact rejected_keeps_invariant h hidle _ nofun nofun
  · exact rejected_keeps_invariant h hidle _ nofun nofun
  · obtain ⟨hpos, -⟩ := expectedFrames_length_bounds hacc
    have hclear : LatchesInRange (clearRecord s) := { h.latchesInRange with }
    have hframe : frame { latchOf i (clearRecord s) with opr := i.op, idx := 0, seq := .busy } i.op 0 = .ok (f, p) := by
      rw [← hf]
      cases i <;> exact frame_congr rfl rfl rfl rfl rfl rfl rfl _ _
    exact .of_busy rfl rfl (seqLength_op hacc) hpos (frameHeld_present hframe) (by simp) (by simp)
      { latchOf_latchesInRange hclear hacc with } (.of_none (by simp) (by simp) (by simp))

/-- A step of IDX inside a sequence does not wrap (R24, R148). -/
theorem toNat_idx_succ {k : BitVec 5} {op : BitVec 4} {n : Nat} (hn : seqLength op = some n) (hk : k.toNat < n) :
    (k + 1).toNat = k.toNat + 1 := by
  have hbound : n < 32 := by rcases seqLength_eq_some.mp hn with ⟨-, rfl⟩ | ⟨-, rfl⟩ | ⟨-, rfl⟩ <;> decide
  rw [BitVec.toNat_add]
  change (k.toNat + 1) % 32 = k.toNat + 1
  omega

/-- An OK answer keeps the invariant of a busy block: at the last frame it goes idle, else the next frame is held
(R152, R153). -/
theorem answerOk_keeps_invariant {s t : State} (h : Invariant s) (hreq : s.req = true)
    (hanswer : answerOk s = .next t) : Invariant t := by
  have hbusy := h.req_iff_busy.mp hreq
  obtain ⟨hdone, herr⟩ := h.busy_no_record hbusy
  obtain ⟨m, hm, hidx⟩ := h.idx_inside hreq
  obtain ⟨n, hn, ⟨-, rfl⟩ | ⟨hlast, f, p, hf, rfl⟩⟩ := answerOk_next hanswer
  · refine .of_idle rfl rfl rfl h.opr_known { h.latchesInRange with } ?_
    exact { h.recordConsistent with done_no_error := fun _ => herr }
  · obtain rfl : m = n := Option.some.inj (hm.symm.trans hn)
    have hsucc := toNat_idx_succ hn hidx
    refine .of_busy hbusy rfl hn ?_ (frameHeld_present ?_) hdone herr { h.latchesInRange with }
      { h.recordConsistent with }
    · change (s.idx + 1).toNat < m
      omega
    · change frame _ _ (s.idx + 1).toNat = _
      rw [hsucc, ← hf]
      exact frame_congr rfl rfl rfl rfl rfl rfl rfl _ _

/-- A FAIL answer records an index inside the sequence of OPR (R154). -/
theorem answerFail_keeps_invariant {s : State} (h : Invariant s) (hreq : s.req = true) : Invariant (answerFail s) := by
  obtain ⟨hdone, -⟩ := h.busy_no_record (h.req_iff_busy.mp hreq)
  refine .of_idle rfl rfl rfl h.opr_known { h.latchesInRange with } ?_
  refine ⟨fun hd => ?_, fun _ => h.idx_inside hreq, fun he => absurd rfl he, fun he => ?_⟩
  · exact absurd (hdone.symm.trans hd) nofun
  · cases he

/-- An answer keeps the invariant (R151 to R154, R186). -/
theorem transportRespond_keeps_invariant {r : Response} {s t : State} (h : Invariant s)
    (hresp : transportRespond r s = .next t) : Invariant t := by
  rcases transportRespond_next hresp with ⟨-, rfl⟩ | ⟨hreq, -, hok⟩ | ⟨hreq, -, rfl⟩
  · exact h
  · have hlog := h.of_ovr_environment s.ovr s.link s.inputs (s.log ++ [.answered .ok])
    exact answerOk_keeps_invariant hlog hreq hok
  · have hlog := h.of_ovr_environment s.ovr s.link s.inputs (s.log ++ [.answered .fail])
    exact answerFail_keeps_invariant hlog hreq

/-- Settles O44: by the environment's next step. A command and an answer keep the invariant, a reset establishes it, and no
other step changes what it speaks of. -/
theorem everyStepKeepsTheInvariant : Obligations.EveryStepKeepsTheInvariant := by
  intro s t hinv hstep
  rcases step_next hstep with ⟨-, rfl⟩ | ⟨w, rest, -, hexec⟩ | ⟨o, n, w, rest, -, -, rfl⟩ | ⟨o, n, rest, -, rfl⟩ |
    ⟨r, rest, -, hresp⟩ | ⟨up, rest, -, rfl⟩ | ⟨rest, -, rfl⟩
  · exact hinv
  · exact exec_keeps_invariant (hinv.of_ovr_environment _ _ rest _) hexec
  · exact hinv.of_ovr_environment _ _ rest _
  · exact hinv.of_ovr_environment _ _ rest _
  · exact transportRespond_keeps_invariant (hinv.of_ovr_environment _ _ rest _) hresp
  · exact hinv.of_ovr_environment _ up rest _
  · exact Invariant.of_ovr_environment invariantAtReset _ _ rest _

end Sys2Proof.Machine
end

section
/-! One step of the sequencer, its whole effect: a command's frame (44_sequencer.md R144, R146, R147), Present (R150), the
Transport's answers (R151 to R154), and a block that waits (R34, R155). -/

namespace Sys2Proof.Machine

/-- Settles O24: a command is one CMD write, and a busy block drops it. -/
theorem busyWriteIsDropped : Obligations.BusyWriteIsDropped :=
  fun i s hbusy => (exec_eq_cmdWrite i s).trans (cmdWrite_busy hbusy)

/-- No command changes LINK or the inputs (R35, R144 to R147). -/
theorem exec_environment {i : Instr} {s t : State} (h : exec i s = .next t) :
    t.link = s.link ∧ t.inputs = s.inputs := by
  rcases exec_next h with ⟨-, rfl⟩ | ⟨-, -, rfl⟩ | ⟨-, -, rfl⟩ | ⟨-, -, f, p, -, rfl⟩
  · exact ⟨rfl, rfl⟩
  · exact ⟨rfl, rfl⟩
  · exact ⟨rfl, rfl⟩
  · simp

/-- A command that is dropped or rejected writes STATUS flags and the error record alone (R144 to R146). -/
theorem exec_unaccepted {i : Instr} {s t : State} (h : exec i s = .next t) (hnot : ¬ (Ready s ∧ Accepted i)) :
    t = { s with done := t.done, ovr := t.ovr, err := t.err, errOp := t.errOp, errIdx := t.errIdx } := by
  rcases exec_next h with ⟨-, rfl⟩ | ⟨-, -, rfl⟩ | ⟨-, -, rfl⟩ | ⟨hready, hacc, -⟩
  · rfl
  · rfl
  · rfl
  · exact absurd ⟨hready, hacc⟩ hnot

/-- After a command OPR and the latches are those of before, or those of before with the command's own writes (R147). -/
theorem exec_latches {i : Instr} {s t : State} (h : exec i s = .next t) :
    SameLatches s t ∨ SameLatches { latchOf i s with opr := i.op } t := by
  rcases exec_next h with ⟨-, rfl⟩ | ⟨-, -, rfl⟩ | ⟨-, -, rfl⟩ | ⟨-, -, f, p, -, rfl⟩
  · exact .inl {}
  · exact .inl {}
  · exact .inl {}
  · exact .inr (by cases i <;> exact {})

/-- Settles O25: a busy block drops the command, an unaccepted one writes the record alone, and the latch writes of an
accepted one are its own. -/
theorem commandFrame : Obligations.CommandFrame := by
  intro i s t hexec
  obtain ⟨hlink, hinputs⟩ := exec_environment hexec
  refine ⟨hlink, hinputs, exec_unaccepted hexec, fun hbusy => ?_, ?_, ?_, ?_⟩
  · cases (busyWriteIsDropped i s hbusy).symm.trans hexec
    rfl
  · rintro resv en rfl
    rcases exec_latches hexec with h | h <;> exact ⟨h.band, h.value, h.row, h.red, h.green, h.blue⟩
  · rintro resv band value rfl
    rcases exec_latches hexec with h | h <;> exact ⟨h.red, h.green, h.blue, h.en⟩
  · rintro resv red green blue rfl
    rcases exec_latches hexec with h | h <;> exact ⟨h.band, h.value, h.row, h.en⟩

/-- Settles O15: FB is the frame padded with 0x00, and FLEN holds a length of at most 39. -/
theorem presentFillsTheBuffer : Obligations.PresentFillsTheBuffer := by
  intro f p s hlength
  have hle : f.length ≤ 39 := by omega
  have hflen : (present f p s).flen.toNat = f.length := by
    rw [present_flen, BitVec.toNat_ofNat, Nat.mod_eq_of_lt (by omega)]
  refine ⟨fun i hi => ?_, hflen, rfl, ?_⟩
  · rw [present_fb, fitFrame_getElem]
    split
    · rfl
    · exact List.getD_eq_default _ _ (by omega)
  · rw [outstanding, if_pos (present_req f p s), hflen, present_fb, present_fparam, fitFrame_take hle]

/-- Settles O29: with the latches in range the next frame is defined, and the OK presents it. -/
theorem okAnswerPresentsTheNextFrame : Obligations.OkAnswerPresentsTheNextFrame := by
  intro s rest n hinv hreq hin hn hidx
  obtain ⟨f, p, hf⟩ := frame_defined hinv.band_le hinv.row_le hn (k := s.idx.toNat + 1) (by omega)
  have hnext := transportRespond_ok_next (s := { s with inputs := rest }) hreq hn hidx.ne
    ((frame_congr rfl rfl rfl rfl rfl rfl rfl _ _).trans hf)
  refine ⟨f, p, hf, (step_respond hin).trans (hnext.trans ?_)⟩
  simp [present, hreq]

/-- Settles O30: the OK to the last frame goes idle with DONE set. -/
theorem okAnswerToTheLastFrameCompletes : Obligations.OkAnswerToTheLastFrameCompletes := by
  intro s rest n hreq hin hn hlast
  exact (step_respond hin).trans (transportRespond_ok_last (s := { s with inputs := rest }) hreq hn hlast)

/-- Settles O31: the FAIL goes idle with its record; DONE was 0 as in every busy state. -/
theorem failAnswerAbandons : Obligations.FailAnswerAbandons := by
  intro s rest hinv hreq hin
  obtain ⟨hdone, -⟩ := hinv.busy_no_record (hinv.req_iff_busy.mp hreq)
  exact ⟨hdone, (step_respond hin).trans (transportRespond_fail (s := { s with inputs := rest }) hreq)⟩

/-- An answer without an outstanding frame is discarded (R151, R186). -/
theorem transportRespond_discarded {s : State} (r : Response) (hreq : s.req = false) :
    transportRespond r s = .next s := if_pos hreq

/-- Settles O32: the answer leaves the list, and without REQ it is discarded. -/
theorem answerWithoutRequestIsDiscarded : Obligations.AnswerWithoutRequestIsDiscarded :=
  fun _ r _ hreq hin => (step_respond hin).trans (transportRespond_discarded r hreq)

/-- Settles O27: with an empty list `step` answers the state it is given. -/
theorem noInputKeepsTheState : Obligations.NoInputKeepsTheState := by
  intro s hin
  simp [step, hin]

/-- The second state holds the first one's frame and record of the sequence, and no frame has been added; by default each
field holds by unfolding. -/
structure SameFrameHeld (s t : State) : Prop where
  seq : t.seq = s.seq := by rfl
  idx : t.idx = s.idx := by rfl
  opr : t.opr = s.opr := by rfl
  fb : t.fb = s.fb := by rfl
  flen : t.flen = s.flen := by rfl
  fparam : t.fparam = s.fparam := by rfl
  req : t.req = s.req := by rfl
  done : t.done = s.done := by rfl
  err : t.err = s.err := by rfl
  frames : framesOf t.log = framesOf s.log := by rfl

theorem SameFrameHeld.trans {s t u : State} (h : SameFrameHeld s t) (h' : SameFrameHeld t u) : SameFrameHeld s u where
  seq := h'.seq.trans h.seq
  idx := h'.idx.trans h.idx
  opr := h'.opr.trans h.opr
  fb := h'.fb.trans h.fb
  flen := h'.flen.trans h.flen
  fparam := h'.fparam.trans h.fparam
  req := h'.req.trans h.req
  done := h'.done.trans h.done
  err := h'.err.trans h.err
  frames := h'.frames.trans h.frames

/-- No answer and no reset is among the steps to come. -/
def NoAnswerOrReset (inputs : List Event) : Prop := ∀ e ∈ inputs, e ≠ .reset ∧ ∀ r, e ≠ .respond r

/-- A busy block that gets neither an answer nor a reset takes a step and holds its frame (R34, R144, R155). -/
theorem step_holds_frame {s : State} (hbusy : s.seq = .busy) (hinputs : NoAnswerOrReset s.inputs) :
    ∃ t, step s = .next t ∧ SameFrameHeld s t ∧ NoAnswerOrReset t.inputs := by
  cases hin : s.inputs with
  | nil => exact ⟨s, noInputKeepsTheState s hin, {}, hinputs⟩
  | cons e rest =>
    rw [hin] at hinputs
    obtain ⟨⟨hreset, hrespond⟩, hrest⟩ := List.forall_mem_cons.mp hinputs
    cases e with
    | hostWrite o n w =>
      by_cases hcmd : o = 0x0 ∧ n = 32
      · obtain ⟨rfl, rfl⟩ := hcmd
        have hdrop := busyWriteIsDropped (decode w) { s with inputs := rest } hbusy
        exact ⟨_, (stepRunsTheDecodedCommand s w rest hin).trans hdrop, {}, hrest⟩
      · exact ⟨_, step_hostWrite_other hin hcmd, {}, hrest⟩
    | hostRead o n => exact ⟨_, step_hostRead hin, { frames := by simp [framesOf] }, hrest⟩
    | respond r => exact absurd rfl (hrespond r)
    | link up => exact ⟨_, linkChangesAlone s up rest hin, {}, hrest⟩
    | reset => exact absurd rfl hreset

/-- The same over any number of steps. -/
theorem run_holds_frame (k : Nat) {s : State} (hbusy : s.seq = .busy) (hinputs : NoAnswerOrReset s.inputs) :
    ∃ t, runSteps k s = .next t ∧ SameFrameHeld s t := by
  induction k generalizing s with
  | zero => exact ⟨s, runSteps_zero s, {}⟩
  | succ k ih =>
    obtain ⟨u, hstep, hsame, huin⟩ := step_holds_frame hbusy hinputs
    obtain ⟨t, hrun, ht⟩ := ih (hsame.seq.trans hbusy) huin
    exact ⟨t, (runSteps_succ hstep).trans hrun, hsame.trans ht⟩

/-- Settles O28: by induction on the steps, each of which holds the frame. -/
theorem unansweredFrameIsHeld : Obligations.UnansweredFrameIsHeld := by
  intro k s hbusy hinputs
  obtain ⟨t, hrun, h⟩ := run_holds_frame k hbusy hinputs
  exact ⟨t, hrun, h.seq.trans hbusy, h.idx, h.opr, h.fb, h.flen, h.fparam, h.req, h.done, h.err, h.frames⟩

end Sys2Proof.Machine
end

section
/-! Noninterference of the sequencer (44_sequencer.md R161): two blocks on which an answer cannot tell what earlier commands
left stay so, whatever the answers. -/

namespace Sys2Proof.Machine

/-- FRAME(OPR, k) is the same in states of the same OPR and latches (R161). -/
theorem SameLatches.frame_eq {s t : State} (h : SameLatches s t) (k : Nat) : frame t t.opr k = frame s s.opr k := by
  rw [h.opr]
  exact frame_congr h.band h.value h.row h.red h.green h.blue h.en _ _

/-- Two blocks agree in all that STATUS shows, in REQ and in the frames of their sequence, and have presented the same frames
after those in `before` and `before'`. -/
structure Alike (before before' : List (Frame × Param)) (s s' : State) : Prop where
  seq : s'.seq = s.seq
  idx : s'.idx = s.idx
  opr : s'.opr = s.opr
  req : s'.req = s.req
  done : s'.done = s.done
  ovr : s'.ovr = s.ovr
  err : s'.err = s.err
  errOp : s'.errOp = s.errOp
  errIdx : s'.errIdx = s.errIdx
  link : s'.link = s.link
  frame_eq : ∀ k, frame s' s'.opr k = frame s s.opr k
  presented : ∃ fs, framesOf s.log = before ++ fs ∧ framesOf s'.log = before' ++ fs

/-- STATUS is a function of the fields on which the blocks agree (R38). -/
theorem Alike.statusWord_eq {before before' : List (Frame × Param)} {s s' : State} (h : Alike before before' s s') :
    statusWord s' = statusWord s := by
  simp only [statusWord, busyBit, h.seq, h.idx, h.opr, h.done, h.ovr, h.err, h.errOp, h.errIdx, h.link]

section
variable {before before' : List (Frame × Param)} {s s' t : State}

/-- The inputs are not compared. -/
theorem Alike.with_inputs (h : Alike before before' s s') (rest : List Event) :
    Alike before before' { s with inputs := rest } { s' with inputs := rest } :=
  { h with frame_eq := fun k =>
      (SameLatches.frame_eq {} k).trans ((h.frame_eq k).trans (SameLatches.frame_eq {} k).symm) }

/-- The same answer has the same effect on both blocks (R151 to R154). -/
theorem Alike.after_answer {r : Response} (h : Alike before before' s s') (hresp : transportRespond r s = .next t) :
    ∃ t', transportRespond r s' = .next t' ∧ Alike before before' t t' := by
  obtain ⟨fs, hfs, hfs'⟩ := h.presented
  have hframe {t' : State} (hresp' : transportRespond r s' = .next t') (k : Nat) :
      frame t' t'.opr k = frame t t.opr k := by
    rw [(transportRespond_sameLatches hresp').frame_eq, h.frame_eq, (transportRespond_sameLatches hresp).frame_eq]
  rcases transportRespond_next hresp with ⟨hreq, rfl⟩ | ⟨hreq, rfl, hok⟩ | ⟨hreq, rfl, rfl⟩
  · exact ⟨s', transportRespond_discarded r (h.req.trans hreq), h⟩
  · obtain ⟨n, hn, ⟨hlast, rfl⟩ | ⟨hlast, f, p, hf, rfl⟩⟩ := answerOk_next hok
    · have hresp' := transportRespond_ok_last (h.req.trans hreq) ((congrArg seqLength h.opr).trans hn)
        ((congrArg BitVec.toNat h.idx).trans hlast)
      refine ⟨_, hresp', { h with
        seq := rfl, idx := rfl, req := rfl, done := rfl, frame_eq := hframe hresp', presented := ⟨fs, ?_⟩ }⟩
      simp [framesOf, hfs, hfs']
    · have hf' : frame s' s'.opr (s'.idx.toNat + 1) = .ok (f, p) := by
        rw [h.frame_eq, h.idx, ← hf]
        exact (SameLatches.frame_eq {} _).symm
      have hresp' := transportRespond_ok_next (h.req.trans hreq) ((congrArg seqLength h.opr).trans hn)
        (h.idx ▸ hlast) hf'
      refine ⟨_, hresp', { h with
        idx := congrArg (· + 1) h.idx, req := rfl, frame_eq := hframe hresp', presented := ⟨fs ++ [(f, p)], ?_⟩ }⟩
      simp [framesOf, hfs, hfs']
  · have hresp' := transportRespond_fail (h.req.trans hreq)
    refine ⟨_, hresp', { h with
      seq := rfl, idx := rfl, req := rfl, err := rfl, errOp := h.opr, errIdx := h.idx, frame_eq := hframe hresp',
      presented := ⟨fs, ?_⟩ }⟩
    simp [answerFail, framesOf, hfs, hfs']

end

theorem transportRespond_inputs {r : Response} {s t : State} (h : transportRespond r s = .next t) :
    t.inputs = s.inputs := by
  rcases transportRespond_cases h with ⟨-, rfl⟩ | ⟨-, -, -, rfl⟩ | ⟨-, -, f, p, rfl⟩ | ⟨-, -, rfl⟩ <;> rfl

/-- A run of k + 1 steps that ends in a state begins with a step that does. -/
theorem step_of_runSteps_succ {k : Nat} {s t : State} (h : runSteps (k + 1) s = .next t) :
    ∃ u, step s = .next u ∧ runSteps k u = .next t := by
  cases hstep : step s with
  | next u => exact ⟨u, rfl, (runSteps_succ hstep).symm.trans h⟩
  | fault e =>
    have hcore : Sys2Proof.core.step s = .fault e := hstep
    simp [runSteps, Host.Core.run, hcore] at h
  | refused e =>
    have hcore : Sys2Proof.core.step s = .refused e := hstep
    simp [runSteps, Host.Core.run, hcore] at h

/-- The same answers leave the blocks alike. -/
theorem Alike.run_answers {before before' : List (Frame × Param)} {t t' : State} (answers : List Response)
    {s s' : State} (h : Alike before before' s s') (hin : s.inputs = answers.map .respond)
    (hin' : s'.inputs = answers.map .respond)
    (hrun : runSteps answers.length s = .next t) (hrun' : runSteps answers.length s' = .next t') :
    Alike before before' t t' := by
  induction answers generalizing s s' with
  | nil =>
    cases hrun
    cases hrun'
    exact h
  | cons r rest ih =>
    obtain ⟨u, hstep, hrun⟩ := step_of_runSteps_succ hrun
    rw [step_respond hin] at hstep
    obtain ⟨u', hstep', hu⟩ := (h.with_inputs (rest.map .respond)).after_answer hstep
    rw [List.length_cons, runSteps_succ ((step_respond hin').trans hstep')] at hrun'
    exact ih hu (transportRespond_inputs hstep) (transportRespond_inputs hstep') hrun hrun'

/-- The state of a ready block after an accepted command whose frame 0 is f with parameter p (R147). -/
def started (i : Instr) (f : Frame) (p : Param) (s : State) : State :=
  present f p { latchOf i (clearRecord s) with opr := i.op, idx := 0, seq := .busy }

theorem started_inputs (i : Instr) (f : Frame) (p : Param) (s : State) : (started i f p s).inputs = s.inputs := by
  simp [started]

/-- A ready block takes an accepted command off the list and starts it with entry 0 of its row (R147). -/
theorem step_started {i : Instr} {s : State} {rest : List Event} (hready : Ready s) (hacc : Accepted i)
    (hin : s.inputs = commandEvent i :: rest) (hpos : 0 < (expectedFrames i).length) :
    step s = .next (started i (expectedFrames i)[0].1 (expectedFrames i)[0].2 { s with inputs := rest }) :=
  (step_commandEvent hin).trans (exec_accepted hready hacc (List.getElem?_eq_getElem hpos))

/-- Once the command has started, its sequence is the row of the map (R90, R161). -/
theorem frame_started {i : Instr} (hacc : Accepted i) (f : Frame) (p : Param) (s : State) (k : Nat) :
    frame (started i f p s) i.op k = mapFrame (expectedFrames i) k := by
  rw [← frame_latchOf hacc (clearRecord s)]
  exact frame_congr rfl rfl rfl rfl rfl rfl rfl _ _

/-- Two ready blocks that accept the same command are alike (R145, R147). -/
theorem alike_started {i : Instr} {s s' : State} (hready : Ready s) (hready' : Ready s') (hacc : Accepted i) (f : Frame)
    (p : Param) : Alike (framesOf s.log) (framesOf s'.log) (started i f p s) (started i f p s') where
  seq := rfl
  idx := rfl
  opr := rfl
  req := rfl
  done := by simp [started]
  ovr := by simp [started]
  err := by simp [started]
  errOp := by simp [started]
  errIdx := by simp [started]
  link := by
    obtain ⟨-, hlink⟩ := hready
    obtain ⟨-, hlink'⟩ := hready'
    simp [started, hlink, hlink']
  frame_eq k := (frame_started hacc f p s' k).trans (frame_started hacc f p s k).symm
  presented := ⟨[(f, p)], by simp [started, framesOf]⟩

/-- Settles O52: the command starts both blocks alike, and the answers leave them alike. -/
theorem sequencesDependOnTheCommandAlone : Obligations.SequencesDependOnTheCommandAlone := by
  intro i answers s s' t t' hready hready' hacc hin hin' hrun hrun'
  obtain ⟨hpos, -⟩ := expectedFrames_length_bounds hacc
  rw [runSteps_succ (step_started hready hacc hin hpos)] at hrun
  rw [runSteps_succ (step_started hready' hacc hin' hpos)] at hrun'
  have hstart := alike_started (s := { s with inputs := answers.map .respond })
    (s' := { s' with inputs := answers.map .respond }) hready hready' hacc
    (expectedFrames i)[0].1 (expectedFrames i)[0].2
  have hend := hstart.run_answers answers (started_inputs ..) (started_inputs ..) hrun hrun'
  exact ⟨hend.presented, hend.statusWord_eq.symm⟩

end Sys2Proof.Machine
end

section
/-! The error record (60_exceptions.md R164, R165, R170): what an idle block writes there for a command, and who else may
write it. -/

namespace Sys2Proof.Machine

/-- Settles O23: with the link down the one CMD write that every command is records LINK_DOWN, and bits 31:28 of the
command's word are its OP. -/
theorem linkDownRejectsEveryCommand : Obligations.LinkDownRejectsEveryCommand := by
  intro i s hidle hlink
  have hop : (encode i).extractLsb' 28 4 = i.op := opField_encode i
  rw [hop]
  exact ⟨(exec_eq_cmdWrite i s).trans (cmdWrite_linkDown hidle hlink), rfl⟩

/-- A ready block clears the record for an accepted command and raises nothing (R145, R147). -/
theorem exec_accepted_err {i : Instr} {s t : State} (hready : Ready s) (hacc : Accepted i) (h : exec i s = .next t) :
    t.err = .none := by
  obtain ⟨hpos, -⟩ := expectedFrames_length_bounds hacc
  cases (exec_accepted hready hacc (List.getElem?_eq_getElem hpos)).symm.trans h
  simp

/-- Settles O22: a ready block clears the record for an accepted command, and for any other writes INVALID_ARGUMENT there
and nothing else. -/
theorem invalidArgumentExactlyWhenInvalid : Obligations.InvalidArgumentExactlyWhenInvalid := by
  intro i s t hready hexec
  refine ⟨rfl, ?_⟩
  by_cases hacc : Accepted i
  · have herr : t.err = .none := exec_accepted_err hready hacc hexec
    simp [herr, hacc]
  · cases (exec_not_accepted hready hacc).symm.trans hexec
    exact ⟨iff_of_true rfl hacc, fun _ => ⟨rfl, hready.1, rfl⟩⟩

/-- ERR, ERR_OP and ERR_IDX are the same in both states; by default each holds by unfolding. -/
structure SameRecord (s t : State) : Prop where
  err : t.err = s.err := by rfl
  errOp : t.errOp = s.errOp := by rfl
  errIdx : t.errIdx = s.errIdx := by rfl

/-- The inputs are no part of the record. -/
theorem SameRecord.of_inputs {s t : State} {rest : List Event} (h : SameRecord { s with inputs := rest } t) :
    SameRecord s t := { h with }

/-- A busy block keeps its error record when a command is written (R144, R167). -/
theorem exec_sameRecord {i : Instr} {s t : State} (h : exec i s = .next t) : SameRecord s t ∨ s.seq = .idle := by
  rcases exec_next h with ⟨-, rfl⟩ | ⟨hidle, -⟩ | ⟨⟨hidle, -⟩, -⟩ | ⟨⟨hidle, -⟩, -⟩
  · exact .inl {}
  · exact .inr hidle
  · exact .inr hidle
  · exact .inr hidle

/-- An answer keeps the error record, but for a FAIL to an outstanding frame, which raises TRANSFER_FAILED (R154). -/
theorem transportRespond_sameRecord {r : Response} {s t : State} (h : transportRespond r s = .next t) :
    SameRecord s t ∨ (s.req = true ∧ r = .fail ∧ t.err = .transferFailed) := by
  rcases transportRespond_cases h with ⟨-, rfl⟩ | ⟨-, -, -, rfl⟩ | ⟨-, -, f, p, rfl⟩ | ⟨hreq, hfail, rfl⟩
  · exact .inl {}
  · exact .inl {}
  · exact .inl {}
  · exact .inr ⟨hreq, hfail, rfl⟩

/-- Every step keeps the error record, but for a command written while idle, a FAIL to an outstanding frame, and a reset
(R145, R170, R185). -/
theorem step_sameRecord {s t : State} (hstep : step s = .next t) :
    SameRecord s t ∨ (s.seq = .idle ∧ ∃ w rest, s.inputs = .hostWrite 0x0 32 w :: rest) ∨
    (s.req = true ∧ t.err = .transferFailed ∧ ∃ rest, s.inputs = .respond .fail :: rest) ∨
    (∃ rest, s.inputs = .reset :: rest) := by
  rcases step_next hstep with ⟨-, rfl⟩ | ⟨w, rest, hin, hexec⟩ | ⟨o, n, w, rest, -, -, rfl⟩ | ⟨o, n, rest, -, rfl⟩ |
    ⟨r, rest, hin, hresp⟩ | ⟨up, rest, -, rfl⟩ | ⟨rest, hin, -⟩
  · exact .inl {}
  · rcases exec_sameRecord hexec with hsame | hidle
    · exact .inl hsame.of_inputs
    · exact .inr (.inl ⟨hidle, w, rest, hin⟩)
  · exact .inl {}
  · exact .inl {}
  · rcases transportRespond_sameRecord hresp with hsame | ⟨hreq, rfl, herr⟩
    · exact .inl hsame.of_inputs
    · exact .inr (.inr (.inl ⟨hreq, herr, rest, hin⟩))
  · exact .inl {}
  · exact .inr (.inr (.inr ⟨rest, hin⟩))

/-- Settles O40: a change of the error record is what `step_sameRecord` rules out of every other step. -/
theorem errorRecordChangesOnlyAsStated : Obligations.ErrorRecordChangesOnlyAsStated := by
  intro s t hstep hchange
  refine (step_sameRecord hstep).resolve_left fun hsame => ?_
  obtain ⟨herr, hop, hidx⟩ := hsame
  simp [herr, hop, hidx] at hchange

end Sys2Proof.Machine
end

section
/-! Reset from any state, and the answer that comes after it (70_reset_and_hazards.md R185, R186). -/

namespace Sys2Proof.Machine

/-- A reset next: the block takes its reset state (R185). -/
theorem step_reset {s : State} {rest : List Event} (h : s.inputs = .reset :: rest) :
    step s = .next (resetBlock { s with inputs := rest }) := step_cons h

/-- Settles O36: the step is `resetBlock`, which takes every field from `State.reset` but LINK, the inputs and the log. -/
theorem resetFromAnyState : Obligations.ResetFromAnyState :=
  fun _ _ hin => step_reset hin

/-- Settles O37: the reset leaves REQ = 0, so the answer finds no outstanding frame and is discarded as any such answer
is (O32). -/
theorem answerAfterResetIsDiscarded : Obligations.AnswerAfterResetIsDiscarded := by
  intro s r rest hin
  have hreq : (resetBlock { s with inputs := .respond r :: rest }).req = false := resetBlock_req _
  exact ⟨_, step_reset hin, resetBlock_err _, resetBlock_done _, hreq, resetBlock_seq _,
    answerWithoutRequestIsDiscarded _ r rest hreq (resetBlock_inputs _)⟩

end Sys2Proof.Machine
end
